-- ==== Sys2Proof/Word.lean ====
section
/-!
DEFINITION. The words of the block: the byte, the 9-bit wire symbol (30_encoding.md R45), the 16-bit value of an
immediate (R52), and the level of a line (00_scope.md section 6).
-/

namespace Sys2Proof

/-- A byte, bit 7 the most significant (00_scope.md section 6). -/
abbrev Byte := BitVec 8

/-- A wire symbol: bit 8 is `s`, bits 7 to 0 the byte (R45). -/
abbrev Symbol := BitVec 9

/-- A 16-bit unsigned value, `u16` (00_scope.md section 6). -/
abbrev Half := BitVec 16

/-- The level of a line. -/
inductive Level where
  | low
  | high
  deriving DecidableEq, Repr, Inhabited

end Sys2Proof
end

