-- ==== Sys2Proof/Config.lean ====
section
/-!
DEFINITION. What is fixed for the block (00_scope.md R4, R5), what the spec leaves open as a named parameter (R6), and
the free values: the answers of the panel side, on which the block has no influence (R3, R132, R139).
-/

namespace Sys2Proof

/-- Outcome of a transport call (R132). -/
inductive TransportOutcome where
  | ok
  | fail
  deriving DecidableEq, Repr, Inhabited

/-- Outcome of a busy wait (R139). -/
inductive WaitOutcome where
  | cleared
  | timedOut
  deriving DecidableEq, Repr, Inhabited

/-- Where the byte is written within the chip-select pulse low, high, low (`CS_BYTE_SLOT`, R6, R136, D3). -/
inductive ByteSlot where
  | afterFirstLow
  | afterHigh
  | afterSecondLow
  deriving DecidableEq, Repr, Inhabited

/-- Order of the bits of a byte on the data wire (`SPI_BIT_ORDER`, R6, R36). No rule reads it. -/
inductive BitOrder where
  | msbFirst
  | lsbFirst
  deriving DecidableEq, Repr, Inhabited

/-- The open parameters of R6. The document gives none of these values, so a claim about the block is stated for
every value of this structure. -/
structure Params where
  /-- `RST_ACTIVE_LEVEL` (R77, D1). -/
  rstActiveLevel : Level
  /-- `DC_COMMAND_LEVEL`; the data level is the other one (R136, D2). -/
  dcCommandLevel : Level
  /-- `CS_BYTE_SLOT` (R136, D3). -/
  csByteSlot : ByteSlot
  /-- `CMD_POWER_SETTING` (R80). -/
  cmdPowerSetting : Byte
  /-- `CMD_PANEL_SETTING` (R81). -/
  cmdPanelSetting : Byte
  /-- `CMD_BOOSTER_SOFT_START` (R82). -/
  cmdBoosterSoftStart : Byte
  /-- `CMD_POWER_ON` (R83). -/
  cmdPowerOn : Byte
  /-- `CMD_PLL_CONTROL` (R85). -/
  cmdPllControl : Byte
  /-- `CMD_VCOM_DATA_INTERVAL` (R86). -/
  cmdVcomDataInterval : Byte
  /-- `CMD_TCON` (R87). -/
  cmdTcon : Byte
  /-- `CMD_RESOLUTION` (R88). -/
  cmdResolution : Byte
  /-- `CMD_POWER_SETTING_2` (R89). -/
  cmdPowerSetting2 : Byte
  /-- `CMD_FLASH_MODE` (R90). -/
  cmdFlashMode : Byte
  /-- `BUSY_ACTIVE_LEVEL` (R6, D7). No rule reads it: the wait primitive hides it (R139). -/
  busyActiveLevel : Level
  /-- `SPI_BIT_ORDER` (R6, R36, D18). No rule reads it. -/
  spiBitOrder : BitOrder
  deriving DecidableEq, Repr

namespace Config

/-- `DISPLAY_WIDTH` (R4). -/
abbrev W : Nat := 640

/-- `DISPLAY_HEIGHT` (R4). -/
abbrev H : Nat := 384

/-- Pixels per bitmap, `W × H` (R4). -/
abbrev N : Nat := 245760

/-- Packed data bytes per frame, `N / 2` (R4). -/
abbrev NB : Nat := 122880

/-- `SPI_MODE` (R4). -/
abbrev spiMode : Nat := 0

/-- `SPI_HZ` (R4). -/
abbrev spiHz : Nat := 4000000

/-- `T_RST_HOLD`, a lower bound in milliseconds (R5). -/
abbrev tRstHold : Nat := 200

/-- `T_RST_GAP`, a lower bound in milliseconds (R5). -/
abbrev tRstGap : Nat := 10

/-- `T_INIT_BUSY`, the time-out after Power On in milliseconds (R5). -/
abbrev tInitBusy : Nat := 5000

/-- `T_REFRESH_BUSY`, the time-out after display refresh in milliseconds (R5). -/
abbrev tRefreshBusy : Nat := 40000

/-- `T_OFF_BUSY`, the time-out after Power Off in milliseconds (R5). -/
abbrev tOffBusy : Nat := 5000

/-- FREE VALUE (log 5). The outcome of the transport call that is the `n`-th of the run: "a free draw of the
environment at each call" (R132). It has no body, so nothing can be proved of a value of it. -/
opaque transportOutcome : Nat → TransportOutcome

/-- FREE VALUE (log 6). The outcome of the busy wait that is the `n`-th of the run (R139, D7). -/
opaque waitOutcome : Nat → WaitOutcome

end Config

end Sys2Proof
end

