-- ==== Sys2Proof/Syntax.lean ====
section
/-!
DEFINITION. The instructions of the block: one constructor of `Instr` per row of spec/opcode_table.json, that is, the
fourteen command symbols, the two data symbols and the sixteen operations (30_encoding.md R47, R50, R60, R61).
-/

namespace Sys2Proof

/-- The three output lines (R131). -/
inductive Line where
  | rst
  | dc
  | cs
  deriving DecidableEq, Repr

/-- The command-select state of a transfer: the `s` of a wire symbol (R45). -/
inductive Select where
  | command
  | data
  deriving DecidableEq, Repr

/-- The four pixel codes (R49). -/
inductive PixelCode where
  | black
  | blackNoRefresh
  | whiteNoRefresh
  | white
  deriving DecidableEq, Repr

/-- The three fatal error kinds (60_exceptions.md R150). -/
inductive ErrorKind where
  | invalidDimensions
  | initTimeout
  | transportFailure
  deriving DecidableEq, Repr

/-- The two warnings (R154, R105). -/
inductive Warning where
  | refreshTimeout
  | powerOffTimeout
  deriving DecidableEq, Repr

/-- What a busy wait does with a time-out (R139). -/
inductive WaitPolicy where
  | fatal (e : ErrorKind)
  | warn (w : Warning)
  deriving DecidableEq, Repr

/-- Severity of a log entry (R130). -/
inductive Severity where
  | error
  | warning
  deriving DecidableEq, Repr

/-- The condition a log entry names: the three required entries (R141). -/
inductive LogCondition where
  | invalidDimensions
  | refreshTimeout
  | powerOffTimeout
  deriving DecidableEq, Repr

/-- The instructions: the rows of spec/opcode_table.json, in its order. -/
inductive Instr where
  /-- Command symbol POWER_SETTING, step S08 (R80). -/
  | powerSetting
  /-- Command symbol PANEL_SETTING, step S11 (R81). -/
  | panelSetting
  /-- Command symbol BOOSTER_SOFT_START, step S14 (R82). -/
  | boosterSoftStart
  /-- Command symbol POWER_ON, step S18 (R83). -/
  | powerOn
  /-- Command symbol PLL_CONTROL, step S20 (R85). -/
  | pllControl
  /-- Command symbol VCOM_DATA_INTERVAL, step S22 (R86). -/
  | vcomDataInterval
  /-- Command symbol TCON, step S24 (R87). -/
  | tcon
  /-- Command symbol RESOLUTION_SETTING, step S26 (R88). -/
  | resolutionSetting
  /-- Command symbol POWER_SETTING_2, step S31 (R89). -/
  | powerSetting2
  /-- Command symbol FLASH_MODE, step S33 (R90). -/
  | flashMode
  /-- Command symbol START_DATA_TRANSMISSION, step S35 (R100). -/
  | startDataTransmission
  /-- Command symbol DISPLAY_REFRESH, step S37 (R103). -/
  | displayRefresh
  /-- Command symbol POWER_OFF, step S40 (R111). -/
  | powerOff
  /-- Command symbol DEEP_SLEEP, step S42 (R113). -/
  | deepSleep
  /-- Data symbol `1 dddddddd`, a literal of a command's frame (R138, R53). -/
  | dataByte (d : Byte)
  /-- Data symbol `1 00aa00bb`, `a` the code of the even pixel, `b` of the odd one (R50, R123). -/
  | pixelByte (a b : PixelCode)
  /-- `UPDATE(bm, len)`: the host's request; `len` is the length of the list (R65, R30). -/
  | update (bm : List Bool)
  /-- `CHECK len` (R68). -/
  | check (len : Nat)
  /-- `RSTPULSE`, the six steps S01 to S06 (R76). -/
  | rstpulse
  /-- `LINE l, v` (R131). -/
  | line (l : Line) (v : Level)
  /-- `DELAY ms` (R134). -/
  | delay (ms : Nat)
  /-- `OPEN mode, hz` (R133). -/
  | openTransport (mode hz : Nat)
  /-- `WRITE b` (R135). -/
  | write (b : Byte)
  /-- `XFER s, b` (R136). -/
  | xfer (k : Select) (b : Byte)
  /-- `CMD b` (R137). -/
  | cmd (b : Byte)
  /-- `DATA b` (R138). -/
  | data (b : Byte)
  /-- `WAIT ms, policy` (R139). -/
  | wait (ms : Nat) (policy : WaitPolicy)
  /-- `PIXELS` (R102). -/
  | pixels
  /-- `COMMIT` (R106). -/
  | commit
  /-- `CLOSE` (R140). -/
  | closeTransport
  /-- `LOG sev, what` (R141). -/
  | log (sev : Severity) (what : LogCondition)
  /-- `RET` (R66). -/
  | ret
  deriving DecidableEq, Repr

end Sys2Proof
end

