-- ==== Sys2Proof/WellFormed.lean ====
section
/-!
DEFINITION. Which instructions the block has: the operands the spec gives each form (R53, R133, R134, R138, R139, R141
and the operand columns of spec/opcode_table.json). What has no check takes every operand of its type.
-/

namespace Sys2Proof

/-- The literal data bytes of the frames of R47 (R52, R53; the row DATA_BYTE of spec/opcode_table.json). -/
def literalBytes : List Byte :=
  [0x37, 0x00, 0xCF, 0x08, 0xC7, 0xCC, 0x28, 0x3C, 0x77, 0x22, 0x02, 0x80, 0x01, 0x1E, 0x03, 0xA5]

/-- The delays of the step list (R5, R134). -/
def Instr.delayChoices : List Nat := [Config.tRstHold, Config.tRstGap]

/-- The waits of the step list: S19, S38 and S41 (R139). -/
def Instr.waitChoices : List (Nat × WaitPolicy) :=
  [(Config.tInitBusy, .fatal .initTimeout), (Config.tRefreshBusy, .warn .refreshTimeout),
   (Config.tOffBusy, .warn .powerOffTimeout)]

/-- The three log entries the document requires (R141). -/
def Instr.logChoices : List (Severity × LogCondition) :=
  [(.error, .invalidDimensions), (.warning, .refreshTimeout), (.warning, .powerOffTimeout)]

/-- The instruction has operands the spec gives it. -/
def Instr.wf : Instr → Bool
  | .dataByte d => literalBytes.contains d
  | .delay ms => Instr.delayChoices.contains ms
  | .openTransport mode hz => mode == Config.spiMode && hz == Config.spiHz
  | .wait ms policy => Instr.waitChoices.contains (ms, policy)
  | .log sev what => Instr.logChoices.contains (sev, what)
  | .powerSetting | .panelSetting | .boosterSoftStart | .powerOn | .pllControl | .vcomDataInterval | .tcon => true
  | .resolutionSetting | .powerSetting2 | .flashMode | .startDataTransmission | .displayRefresh => true
  | .powerOff | .deepSleep | .pixelByte _ _ | .update _ | .check _ | .rstpulse | .line _ _ | .write _ => true
  | .xfer _ _ | .cmd _ | .data _ | .pixels | .commit | .closeTransport | .ret => true

end Sys2Proof
end

