-- ==== Sys2Proof/Decode.lean ====
section
/-!
DEFINITION. The wire encoding (30_encoding.md): the pixel code and the packed byte (R49, R50), the command map (R47),
reading a wire symbol back, and the encoder. The block only emits symbols (R54), and its operations have no binary
encoding (R60); so what is decoded here is the wire symbol of R45. A data symbol is read by the frame it stands in
(R46, R48): after `0x10` it is a packed pixel byte, in every other frame a literal (log 14).
-/

namespace Sys2Proof

/-- The default values of the open parameters (R6; marks: log 2, log 3, log 4). -/
def defaultParams : Params where
  rstActiveLevel := .high
  dcCommandLevel := .low
  csByteSlot := .afterFirstLow
  cmdPowerSetting := 0x01
  cmdPanelSetting := 0x00
  cmdBoosterSoftStart := 0x06
  cmdPowerOn := 0x04
  cmdPllControl := 0x30
  cmdVcomDataInterval := 0x50
  cmdTcon := 0x60
  cmdResolution := 0x61
  cmdPowerSetting2 := 0x82
  cmdFlashMode := 0xE5
  busyActiveLevel := .low
  spiBitOrder := .msbFirst

/-! ### Pixel codes and the packed byte -/

/-- The 2-bit value of a pixel code (R49). -/
def PixelCode.bits : PixelCode → BitVec 2
  | .black => 0b00
  | .blackNoRefresh => 0b01
  | .whiteNoRefresh => 0b10
  | .white => 0b11

/-- The pixel code of a 2-bit value (R49). -/
def PixelCode.ofBits (v : BitVec 2) : PixelCode :=
  if v = 0b00 then .black else if v = 0b01 then .blackNoRefresh else if v = 0b10 then .whiteNoRefresh else .white

/-- The pixel is black exactly when bit 1 of its code is 0 (R125). -/
def PixelCode.isBlack (c : PixelCode) : Bool := !c.bits.getLsbD 1

/-- The code is a no-refresh code exactly when its two bits differ (R125). -/
def PixelCode.isNoRefresh (c : PixelCode) : Bool := c.bits.getLsbD 1 ^^ c.bits.getLsbD 0

/-- The packed byte `(a << 4) | b` (R50, R101). -/
def packCodes (a b : PixelCode) : Byte := (a.bits.zeroExtend 8 <<< 4) ||| b.bits.zeroExtend 8

/-- The even pixel's code, bits 5 to 4 (R125). -/
def evenCode (b : Byte) : PixelCode := .ofBits (b.extractLsb' 4 2)

/-- The odd pixel's code, bits 1 to 0 (R125). -/
def oddCode (b : Byte) : PixelCode := .ofBits (b.extractLsb' 0 2)

/-- Bits 7, 6, 3 and 2 are 0, as in every packed pixel byte (R51). -/
def isPacked (b : Byte) : Bool := b &&& 0xCC == 0

/-! ### The command map -/

/-- The command byte of a command symbol (R47). -/
def Instr.commandByte (p : Params) : Instr → Option Byte
  | .powerSetting => some p.cmdPowerSetting
  | .panelSetting => some p.cmdPanelSetting
  | .boosterSoftStart => some p.cmdBoosterSoftStart
  | .powerOn => some p.cmdPowerOn
  | .pllControl => some p.cmdPllControl
  | .vcomDataInterval => some p.cmdVcomDataInterval
  | .tcon => some p.cmdTcon
  | .resolutionSetting => some p.cmdResolution
  | .powerSetting2 => some p.cmdPowerSetting2
  | .flashMode => some p.cmdFlashMode
  | .startDataTransmission => some 0x10
  | .displayRefresh => some 0x12
  | .powerOff => some 0x02
  | .deepSleep => some 0x07
  | .dataByte _ | .pixelByte _ _ | .update _ | .check _ | .rstpulse | .line _ _ | .delay _ => none
  | .openTransport _ _ | .write _ | .xfer _ _ | .cmd _ | .data _ | .wait _ _ | .pixels | .commit => none
  | .closeTransport | .log _ _ | .ret => none

/-- The fourteen command symbols, in the order of R47. -/
def commandSymbols : List Instr :=
  [.powerSetting, .panelSetting, .boosterSoftStart, .powerOn, .pllControl, .vcomDataInterval, .tcon,
   .resolutionSetting, .powerSetting2, .flashMode, .startDataTransmission, .displayRefresh, .powerOff, .deepSleep]

/-- The fourteen command bytes, in the order of R47. -/
def commandBytes (p : Params) : List Byte := commandSymbols.filterMap (Instr.commandByte p)

/-- The fourteen commands are "different" (R47): no two have one byte. -/
abbrev Params.distinct (p : Params) : Prop := (commandBytes p).Nodup

/-- The number of data symbols of a command's frame, the `n` of R47; `none` for what is no command symbol. -/
def Instr.frameLength : Instr → Option Nat
  | .powerSetting => some 2
  | .panelSetting => some 2
  | .boosterSoftStart => some 3
  | .powerOn => some 0
  | .pllControl => some 1
  | .vcomDataInterval => some 1
  | .tcon => some 1
  | .resolutionSetting => some 4
  | .powerSetting2 => some 1
  | .flashMode => some 1
  | .startDataTransmission => some Config.NB
  | .displayRefresh => some 0
  | .powerOff => some 0
  | .deepSleep => some 1
  | .dataByte _ | .pixelByte _ _ | .update _ | .check _ | .rstpulse | .line _ _ | .delay _ => none
  | .openTransport _ _ | .write _ | .xfer _ _ | .cmd _ | .data _ | .wait _ _ | .pixels | .commit => none
  | .closeTransport | .log _ _ | .ret => none

/-! ### Reading a symbol back -/

/-- The frame a data symbol stands in (R46): the pixel stream after `0x10`, or a frame of literals. -/
inductive Frame where
  | literals
  | pixelStream
  deriving DecidableEq, Repr

/-- Why a symbol is no symbol of the block (R54). -/
inductive DecodeError where
  /-- A command byte other than the fourteen of R47. -/
  | unknownCommand (b : Byte)
  /-- A data byte that is no literal of a frame (R53). -/
  | notALiteral (b : Byte)
  /-- A byte of the pixel stream outside the sixteen of R51. -/
  | notAPackedByte (b : Byte)
  deriving DecidableEq, Repr

/-- The `s` of a symbol, bit 8 (R45). -/
def Symbol.select (w : Symbol) : Select := if w.getLsbD 8 then .data else .command

/-- The byte of a symbol, bits 7 to 0 (R45). -/
def Symbol.byte (w : Symbol) : Byte := w.extractLsb' 0 8

/-- The symbol `{s, b}` (R45). -/
def Symbol.mk (k : Select) (b : Byte) : Symbol :=
  match k with
  | .command => 0#1 ++ b
  | .data => 1#1 ++ b

/-- The instruction whose symbol is `w`, standing in the frame `f`. -/
def decodeSymbol (p : Params) (f : Frame) (w : Symbol) : Except DecodeError Instr :=
  match Symbol.select w, f with
  | .command, _ =>
    match commandSymbols.find? (fun i => i.commandByte p == some (Symbol.byte w)) with
    | some i => .ok i
    | none => .error (.unknownCommand (Symbol.byte w))
  | .data, .pixelStream =>
    if isPacked (Symbol.byte w) then .ok (.pixelByte (evenCode (Symbol.byte w)) (oddCode (Symbol.byte w)))
    else .error (.notAPackedByte (Symbol.byte w))
  | .data, .literals =>
    if literalBytes.contains (Symbol.byte w) then .ok (.dataByte (Symbol.byte w))
    else .error (.notALiteral (Symbol.byte w))

/-- The frame after an instruction's symbol: a command opens its own (R46), a data symbol stays in its frame. -/
def Instr.frameAfter (f : Frame) : Instr → Frame
  | .startDataTransmission => .pixelStream
  | .powerSetting | .panelSetting | .boosterSoftStart | .powerOn | .pllControl | .vcomDataInterval => .literals
  | .tcon | .resolutionSetting | .powerSetting2 | .flashMode | .displayRefresh | .powerOff | .deepSleep => .literals
  | .dataByte _ | .pixelByte _ _ | .update _ | .check _ | .rstpulse | .line _ _ | .delay _ => f
  | .openTransport _ _ | .write _ | .xfer _ _ | .cmd _ | .data _ | .wait _ _ | .pixels | .commit => f
  | .closeTransport | .log _ _ | .ret => f

/-- A stream of symbols, read from inside the frame `f`. -/
def decodeStream (p : Params) (f : Frame) : List Symbol → Except DecodeError (List Instr)
  | [] => .ok []
  | w :: ws =>
    match decodeSymbol p f w with
    | .error e => .error e
    | .ok i =>
      match decodeStream p (i.frameAfter f) ws with
      | .error e => .error e
      | .ok is => .ok (i :: is)

/-! ### The encoder -/

/-- The wire symbol of a symbol form (R45, R47, R50); `none` for the operations, which have no encoding (R60). -/
def encode (p : Params) (i : Instr) : Option Symbol :=
  match i.commandByte p, i with
  | some b, _ => some (Symbol.mk .command b)
  | none, .dataByte d => some (Symbol.mk .data d)
  | none, .pixelByte a b => some (Symbol.mk .data (packCodes a b))
  | none, _ => none

/-- The frame a symbol form stands in, for reading its symbol back. -/
def Instr.frame : Instr → Frame
  | .pixelByte _ _ => .pixelStream
  | .powerSetting | .panelSetting | .boosterSoftStart | .powerOn | .pllControl | .vcomDataInterval => .literals
  | .tcon | .resolutionSetting | .powerSetting2 | .flashMode | .startDataTransmission | .displayRefresh => .literals
  | .powerOff | .deepSleep | .dataByte _ | .update _ | .check _ | .rstpulse | .line _ _ | .delay _ => .literals
  | .openTransport _ _ | .write _ | .xfer _ _ | .cmd _ | .data _ | .wait _ _ | .pixels | .commit => .literals
  | .closeTransport | .log _ _ | .ret => .literals

/-! ### The host's question -/

/-- The frame in which a symbol given alone is read: by the more specific of the table's two data rows, so `100aa00bb`
is a pixel byte and any other data symbol a literal (log 14). -/
def loneFrame (w : Symbol) : Frame := if w &&& 0x1CC = 0x100 then .pixelStream else .literals

/-- The instruction read from a symbol numbered as spec/opcode_table.json numbers it, with the default parameters. The
symbol has nine bits; a row of fewer bits is no symbol, and bits above the ninth must be 0. -/
def decodeTableWord (nbits w : Nat) : Option Instr :=
  if nbits < 9 then none
  else if 512 ≤ w then none
  else
    match decodeSymbol defaultParams (loneFrame (BitVec.ofNat 9 w)) (BitVec.ofNat 9 w) with
    | .ok i => some i
    | .error _ => none

end Sys2Proof
end

