-- ==== Sys2Proof/Machine/State.lean ====
section
/-!
DEFINITION. The state of the block (10_state.md), as plain data: every element of its section 5, the open parameters
(R6), the bitmap of the update in flight (R30), the trace of interface events (R130), and the model's inputs.
-/

namespace Sys2Proof.Machine

/-- The step counter's value: IDLE, or the number of the step being executed, S00 to S47 (R15). -/
inductive Pc where
  | idle
  | step (n : Fin 48)
  deriving DecidableEq, Repr

/-- The result of an update (R66). -/
inductive UpdateResult where
  | ok
  | err (e : ErrorKind)
  deriving DecidableEq, Repr

/-- The interface events (R130). -/
inductive Event where
  /-- `Line(l, v)` (R131). -/
  | line (l : Line) (v : Level)
  /-- `Delay(ms)`, a lower bound in milliseconds (R134). -/
  | delay (ms : Nat)
  /-- `Open(mode, hz, r)` (R133). -/
  | openTransport (mode hz : Nat) (r : TransportOutcome)
  /-- `Write(b, r)` (R135). -/
  | write (b : Byte) (r : TransportOutcome)
  /-- `Wait(ms, o)` (R139). -/
  | wait (ms : Nat) (o : WaitOutcome)
  /-- `Close(r)` (R140). -/
  | closeTransport (r : TransportOutcome)
  /-- `Log(sev, what)` (R141). -/
  | log (sev : Severity) (what : LogCondition)
  /-- `Return(res)` (R66). -/
  | ret (res : UpdateResult)
  deriving DecidableEq, Repr

/-- A store of one-bit cells indexed from 0 (R30, R32): cell `i` is the `i`-th entry, `true` = black. -/
abbrev Memory := List Bool

/-- The canonical form of a store (log 8): the list holds each of the `N` cells of the space once, in index order (R30,
R32), so every cell reads and equal stores are equal data. -/
abbrev Memory.wf (m : Memory) : Prop := m.length = Config.N

/-- The Frame State store after reset: `N` cells, all white. R11 and R175 leave the contents unspecified (log 8). -/
def Memory.blank : Memory := List.replicate Config.N false

/-- The state of the block. -/
@[ext]
structure State where
  /-- The open parameters (R6). No instruction writes them (log 1). -/
  params : Params
  /-- `fs_valid` (R10). -/
  fsValid : Bool
  /-- `fs` (R11). -/
  fs : Memory
  /-- `session_open` (R12). -/
  sessionOpen : Bool
  /-- `pc` (R15). -/
  pc : Pc
  /-- `idx` (R16). -/
  idx : Nat
  /-- `err` (R17). -/
  err : Option ErrorKind
  /-- `rst`, the level last driven on the reset line (R18). -/
  rst : Option Level
  /-- `dc`, the level last driven on the command-select line (R18). -/
  dc : Option Level
  /-- `cs`, the level last driven on the chip-select line (R18). -/
  cs : Option Level
  /-- The bitmap of the update in flight, the host's, read only (R30, R31; log 11). -/
  bm : Memory
  /-- The host's `UPDATE` calls still to come, an input (R65; log 7). -/
  requests : List Memory
  /-- The interface events emitted since reset, oldest first (R130; log 12). -/
  trace : List Event
  /-- Transport outcomes given in advance, next first, an input (R132; log 5). -/
  transportAnswers : List TransportOutcome
  /-- Wait outcomes given in advance, next first, an input (R139; log 6). -/
  waitAnswers : List WaitOutcome
  /-- How many transport outcomes have been drawn: the argument of the free value (log 5). -/
  transportDraws : Nat
  /-- How many wait outcomes have been drawn: the argument of the free value (log 6). -/
  waitDraws : Nat
  deriving DecidableEq, Repr

/-- Why the machine stops. Each is a context the spec's rules exclude, so stopping is SAFE: no run of an update from
a state that keeps the rules' invariants comes to one. -/
inductive Fault where
  /-- Raised by every form but `UPDATE` when `pc` is IDLE: "the block emits nothing and changes nothing" there (R71).
  Safe. -/
  | noUpdateInFlight
  /-- Raised by a write or a close when no session is open: both are "called only with `session_open` = `true`" (R135,
  R140). Safe. -/
  | sessionNotOpen
  /-- Raised by an open when a session is open: it is "called only with `session_open` = `false`" (R133). Safe. -/
  | sessionAlreadyOpen
  /-- Raised by a pixel read outside the bitmap: no such index "is ever formed" (R31). Safe. -/
  | bitmapIndex
  /-- Raised by a read outside the cells of the Frame State store: U10's `fault` for a Frame State of another length
  (R33). Safe. -/
  | frameStateIndex
  /-- Raised by a commit of a bitmap that has not `N` pixels: U10's `fault` (R22, R35). Safe. -/
  | frameStateLength
  deriving DecidableEq, Repr

/-- Why a step is refused. -/
inductive Refusal where
  /-- Raised by `exec` for an instruction that has no meaning yet. Safe. -/
  | notModelled (mnemonic : String)
  /-- Raised by `UPDATE` when an update is in flight: outside the contract, refused (R65, D14). Safe. -/
  | updateInFlight
  deriving DecidableEq, Repr

/-- What a meaning answers. -/
abbrev Answer := Host.Outcome State Fault Refusal

/-- The block right after reset (R175). The values no rule gives are the model's: `params` (log 1 to 4), `fs` (log 8),
`idx` (log 9), `bm` (log 11), `trace` (log 12) and the inputs (log 5 to 7). -/
def State.reset : State where
  params := defaultParams
  fsValid := false
  fs := Memory.blank
  sessionOpen := false
  pc := .idle
  idx := 0
  err := none
  rst := none
  dc := none
  cs := none
  bm := []
  requests := []
  trace := []
  transportAnswers := []
  waitAnswers := []
  transportDraws := 0
  waitDraws := 0

end Sys2Proof.Machine
end

