-- ==== Sys2Proof/Machine/Ops.lean ====
section
/-!
DEFINITION. The named operations the meanings are made of: events and lines (45_bus_primitives.md), the step counter
(10_state.md R15, R16), the draws (R132, R139), reading the stores (20_memory.md R31, R33), and taking an error
(60_exceptions.md R157, R158).
-/

namespace Sys2Proof.Machine

/-! ### Stores -/

/-- Read of one cell (R31, R33): `none` outside the store. -/
def Memory.read (m : Memory) (i : Nat) : Option Bool := m[i]?

/-- Row-major index of the pixel in column `x` and row `y` (R30). The block itself uses the index only. -/
def pixelIndex (x y : Nat) : Nat := y * Config.W + x

/-- The commit store (R35): every cell of the Frame State becomes the bitmap's, and `fs_valid` becomes `true`. -/
def State.storeFrame (s : State) (m : Memory) : State := { s with fs := m, fsValid := true }

/-! ### Events and lines -/

/-- `emit e`: append the event to the trace (R130). -/
def State.emit (s : State) (e : Event) : State := { s with trace := s.trace ++ [e] }

/-- Record the level driven on a line (R18). -/
def State.setLine (s : State) (l : Line) (v : Level) : State :=
  match l with
  | .rst => { s with rst := some v }
  | .dc => { s with dc := some v }
  | .cs => { s with cs := some v }

/-- Drive a line (R131): the event, and the level the line holds from now on. -/
def State.drive (s : State) (l : Line) (v : Level) : State := (s.setLine l v).emit (.line l v)

/-! ### The step counter -/

/-- The next step's number; after the last one comes IDLE (R15). -/
def Pc.next : Pc → Pc
  | .idle => .idle
  | .step n => if h : n.val + 1 < 48 then .step ⟨n.val + 1, h⟩ else .idle

/-- `pc <- p`. Entering step S36 sets `idx` to 0 (R16). Outside S36 the spec lets `idx` be any value (U4): that it keeps
its last one is the model's choice (log 9). -/
def State.goto (s : State) (p : Pc) : State :=
  { s with pc := p, idx := if p = .step 36 then 0 else s.idx }

/-- The step ends and the next one in order begins (R15). -/
def State.advance (s : State) : State := s.goto s.pc.next

/-- The answer of a step form: inside an update its effect, in IDLE a stop, since "between updates the block emits
nothing and changes nothing" (R71). -/
def State.duringUpdate (s : State) (a : Answer) : Answer :=
  if s.pc = .idle then .fault .noUpdateInFlight else a

/-! ### Draws of the environment -/

/-- The outcome of the next transport call: given in advance, or free (R132; log 5). -/
def State.transportAnswer (s : State) : TransportOutcome :=
  match s.transportAnswers with
  | [] => Config.transportOutcome s.transportDraws
  | r :: _ => r

/-- One transport outcome is drawn. -/
def State.takeTransport (s : State) : State :=
  { s with transportAnswers := s.transportAnswers.tail, transportDraws := s.transportDraws + 1 }

/-- The outcome of the next busy wait: given in advance, or free (R139; log 6). -/
def State.waitAnswer (s : State) : WaitOutcome :=
  match s.waitAnswers with
  | [] => Config.waitOutcome s.waitDraws
  | o :: _ => o

/-- One wait outcome is drawn. -/
def State.takeWait (s : State) : State :=
  { s with waitAnswers := s.waitAnswers.tail, waitDraws := s.waitDraws + 1 }

/-! ### Sessions -/

/-- `session_open <- b` (R12). -/
def State.setSession (s : State) (b : Bool) : State := { s with sessionOpen := b }

/-! ### Taking an error -/

/-- Latch a fatal error: the first one wins (R156 (c), R17). -/
def State.latch (s : State) (e : ErrorKind) : State :=
  { s with err := match s.err with | none => some e | some e' => some e' }

/-- Where an error raised at step `n` outside the power-down sequence goes: `PDL` (S45) from S07, `PD` (S40) from
every other step (R157). Steps S00 to S06, S38 and S39 raise no error in the rules, and go to `PD` too (log 33). -/
def raiseTarget (n : Fin 48) : Fin 48 := if n = 7 then 45 else 40

/-- A step fails with `e`. Outside the power-down sequence that is `raise` (R157): the error is latched and control
goes to the error target. Inside it (S40 on) the error is latched and the next step in order is run (R158). -/
def State.signal (s : State) (e : ErrorKind) : State :=
  match s.pc with
  | .idle => s
  | .step n => if n.val < 40 then (s.latch e).goto (.step (raiseTarget n)) else (s.latch e).advance

/-- The end of a step that made a transport call (R137, R138, R78, R114): go on after `Ok`, take the error after
`Fail`. -/
def State.settle (s : State) (r : TransportOutcome) : State :=
  match r with
  | .ok => s.advance
  | .fail => s.signal .transportFailure

end Sys2Proof.Machine
end

