-- ==== Sys2Proof/Machine/Flags.lean ====
section
/-!
DEFINITION. The result formed from `err` (40_update.md R66) and the log entry of a warning. The block has no arithmetic
flags and no condition codes (10_state.md R19).
-/

namespace Sys2Proof.Machine

/-- The result an update returns: `Ok` when `err` is `none`, else the latched error (R66). -/
def State.result (s : State) : UpdateResult :=
  match s.err with
  | none => .ok
  | some e => .err e

/-- The numeric code of a result (R55). -/
def UpdateResult.code : UpdateResult → BitVec 2
  | .ok => 0
  | .err .invalidDimensions => 1
  | .err .initTimeout => 2
  | .err .transportFailure => 3

/-- The log entry of a warning (R154, R141). -/
def warningCondition : Warning → LogCondition
  | .refreshTimeout => .refreshTimeout
  | .powerOffTimeout => .powerOffTimeout

end Sys2Proof.Machine
end

