-- ==== Sys2Proof/Machine/Operands.lean ====
section
/-!
DEFINITION. The operand forms: the level of the command-select line for a transfer (45_bus_primitives.md R136), the two
levels of the reset pulse (R76), and the 16-bit immediates sent high byte first (30_encoding.md R52).
-/

namespace Sys2Proof.Machine

/-- The other level, `~L` (00_scope.md section 6). -/
def flipLevel : Level → Level
  | .low => .high
  | .high => .low

/-- `lvl(s)`: the command level is `DC_COMMAND_LEVEL`, the data level the other one (R136). -/
def selectLevel (p : Params) : Select → Level
  | .command => p.dcCommandLevel
  | .data => flipLevel p.dcCommandLevel

/-- `v[15:8]` (R52). -/
def highByte (v : Half) : Byte := v.extractLsb' 8 8

/-- `v[7:0]` (R52). -/
def lowByte (v : Half) : Byte := v.extractLsb' 0 8

/-- The width as a 16-bit value (R52). -/
def widthHalf : Half := BitVec.ofNat 16 Config.W

/-- The height as a 16-bit value (R52). -/
def heightHalf : Half := BitVec.ofNat 16 Config.H

end Sys2Proof.Machine
end

