-- ==== Sys2Proof/Machine/Primitives.lean ====
section
/-!
DEFINITION. The panel-side primitives (45_bus_primitives.md): LINE, DELAY, OPEN, WRITE, XFER, CMD, DATA, WAIT, CLOSE,
LOG. The step forms of 30_encoding.md R60 end their step; WRITE, XFER and LOG are calls inside a step, return to their
caller and leave `pc` alone (log 18). A form at a step the list does not give it, or with operands no step gives it,
runs by the same rules: log 33, log 36.
-/

namespace Sys2Proof.Machine

/-! ### The transfer -/

/-- `WRITE b` (R135): the drawn outcome is in the event; the caller reads it as `s.transportAnswer`. -/
def State.writeByte (s : State) (b : Byte) : State := s.takeTransport.emit (.write b s.transportAnswer)

/-- What follows the write in a transfer: dropped when the write failed (R136, D12). -/
def State.afterWrite (s : State) (r : TransportOutcome) (vs : List Level) : State :=
  match r with
  | .ok => vs.foldl (fun t v => t.drive .cs v) s
  | .fail => s

/-- `XFER s, b` (R136): the command-select drive, then the chip-select pulse low, high, low with the write in the slot
of `CS_BYTE_SLOT`. Its outcome is `s.transportAnswer`. -/
def State.transfer (s : State) (k : Select) (b : Byte) : State :=
  let t := (s.drive .dc (selectLevel s.params k)).drive .cs .low
  match s.params.csByteSlot with
  | .afterFirstLow => (t.writeByte b).afterWrite s.transportAnswer [.high, .low]
  | .afterHigh => ((t.drive .cs .high).writeByte b).afterWrite s.transportAnswer [.low]
  | .afterSecondLow => (((t.drive .cs .high).drive .cs .low).writeByte b).afterWrite s.transportAnswer []

/-- A call that needs an open session (R135, R140). -/
def State.withSession (s : State) (t : State) : Answer :=
  if s.sessionOpen then .next t else .fault .sessionNotOpen

/-- A step that is one transfer (R137, R138): go on after `Ok`, take `TransportFailure` after `Fail`. -/
def State.transferStep (s : State) (k : Select) (b : Byte) : Answer :=
  s.duringUpdate (s.withSession ((s.transfer k b).settle s.transportAnswer))

/-! ### The waits -/

/-- The end of a busy wait (R139): on a time-out the policy's error is taken, or its warning logged and the next step
run. -/
def State.settleWait (s : State) (o : WaitOutcome) (policy : WaitPolicy) : State :=
  match o, policy with
  | .cleared, _ => s.advance
  | .timedOut, .fatal e => s.signal e
  | .timedOut, .warn w => (s.emit (.log .warning (warningCondition w))).advance

/-! ### Meanings -/

/-- LINE (R131). -/
def execLine (l : Line) (v : Level) (s : State) : Answer := s.duringUpdate (.next (s.drive l v).advance)

/-- DELAY (R134): an event that carries the lower bound. -/
def execDelay (ms : Nat) (s : State) : Answer := s.duringUpdate (.next (s.emit (.delay ms)).advance)

/-- OPEN (R133, R78): a session exists after `Ok`; after `Fail` the step raises `TransportFailure`. -/
def execOpenTransport (mode hz : Nat) (s : State) : Answer :=
  s.duringUpdate
    (if s.sessionOpen then .fault .sessionAlreadyOpen
     else
      .next (((s.takeTransport.emit (.openTransport mode hz s.transportAnswer)).setSession
        (s.transportAnswer == .ok)).settle s.transportAnswer))

/-- WRITE (R135). -/
def execWrite (b : Byte) (s : State) : Answer := s.duringUpdate (s.withSession (s.writeByte b))

/-- XFER (R136). -/
def execXfer (k : Select) (b : Byte) (s : State) : Answer := s.duringUpdate (s.withSession (s.transfer k b))

/-- CMD (R137): `XFER(command, b)`, and the failure handling of the calling step. -/
def execCmd (b : Byte) (s : State) : Answer := s.transferStep .command b

/-- DATA (R138): `XFER(data, b)`, and the failure handling of the calling step. -/
def execData (b : Byte) (s : State) : Answer := s.transferStep .data b

/-- WAIT (R139). -/
def execWait (ms : Nat) (policy : WaitPolicy) (s : State) : Answer :=
  s.duringUpdate (.next ((s.takeWait.emit (.wait ms s.waitAnswer)).settleWait s.waitAnswer policy))

/-- CLOSE (R140, R114): no session exists afterwards, whatever the outcome. -/
def execCloseTransport (s : State) : Answer :=
  s.duringUpdate
    (s.withSession
      (((s.takeTransport.emit (.closeTransport s.transportAnswer)).setSession false).settle s.transportAnswer))

/-- LOG (R141). -/
def execLog (sev : Severity) (what : LogCondition) (s : State) : Answer :=
  s.duringUpdate (.next (s.emit (.log sev what)))

end Sys2Proof.Machine
end

