-- ==== Sys2Proof/Machine/Commands.lean ====
section
/-!
DEFINITION. The fourteen command symbols (30_encoding.md R47) and the literal data symbol. Each is the one transfer of
its symbol at its step (40_update.md R67); the data bytes of a command's frame are the steps after it (log 13).
-/

namespace Sys2Proof.Machine

/-- POWER_SETTING (R80). -/
def execPowerSetting (s : State) : Answer := s.transferStep .command s.params.cmdPowerSetting

/-- PANEL_SETTING (R81). -/
def execPanelSetting (s : State) : Answer := s.transferStep .command s.params.cmdPanelSetting

/-- BOOSTER_SOFT_START (R82). -/
def execBoosterSoftStart (s : State) : Answer := s.transferStep .command s.params.cmdBoosterSoftStart

/-- POWER_ON (R83). -/
def execPowerOn (s : State) : Answer := s.transferStep .command s.params.cmdPowerOn

/-- PLL_CONTROL (R85). -/
def execPllControl (s : State) : Answer := s.transferStep .command s.params.cmdPllControl

/-- VCOM_DATA_INTERVAL (R86). -/
def execVcomDataInterval (s : State) : Answer := s.transferStep .command s.params.cmdVcomDataInterval

/-- TCON (R87). -/
def execTcon (s : State) : Answer := s.transferStep .command s.params.cmdTcon

/-- RESOLUTION_SETTING (R88). -/
def execResolutionSetting (s : State) : Answer := s.transferStep .command s.params.cmdResolution

/-- POWER_SETTING_2 (R89). -/
def execPowerSetting2 (s : State) : Answer := s.transferStep .command s.params.cmdPowerSetting2

/-- FLASH_MODE (R90). -/
def execFlashMode (s : State) : Answer := s.transferStep .command s.params.cmdFlashMode

/-- START_DATA_TRANSMISSION (R100). -/
def execStartDataTransmission (s : State) : Answer := s.transferStep .command 0x10

/-- DISPLAY_REFRESH (R103). -/
def execDisplayRefresh (s : State) : Answer := s.transferStep .command 0x12

/-- POWER_OFF (R111). -/
def execPowerOff (s : State) : Answer := s.transferStep .command 0x02

/-- DEEP_SLEEP (R113). -/
def execDeepSleep (s : State) : Answer := s.transferStep .command 0x07

/-- DATA_BYTE (R138, R53). -/
def execDataByte (d : Byte) (s : State) : Answer := s.transferStep .data d

end Sys2Proof.Machine
end

