-- ==== Sys2Proof/Machine/Encoder.lean ====
section
/-!
DEFINITION. The frame differential encoder (44_encoder.md): the pixel code chosen by comparing with the Frame State, and
the packed byte of a pixel pair. It has no state of its own.
-/

namespace Sys2Proof.Machine

/-- `code1(cur, prev)` (R121): the no-refresh code when a prior pixel exists and is the same, else the full-refresh
code. -/
def code1 (cur : Bool) (prev : Option Bool) : PixelCode :=
  match cur, prev with
  | true, some true => .blackNoRefresh
  | true, some false => .black
  | true, none => .black
  | false, some false => .whiteNoRefresh
  | false, some true => .white
  | false, none => .white

/-- The two logic equations of R122, over the current pixel `p`, the prior pixel `q` and `v` = `fs_valid`. -/
def codeGate (p q v : Bool) : BitVec 2 :=
  BitVec.ofBool (!p) ++ BitVec.ofBool (!p ^^ (v && !(p ^^ q)))

/-- `CODE(pixel, index)` (R120): the Frame State is read only when it is valid (R33). -/
def State.code (s : State) (pixel : Bool) (index : Nat) : Except Fault PixelCode :=
  if s.fsValid then
    match s.fs.read index with
    | some q => .ok (code1 pixel (some q))
    | none => .error .frameStateIndex
  else .ok (code1 pixel none)

/-- `CODE(bm[i], i)`: the code of the pixel at index `i` of the bitmap in flight. -/
def State.codeAt (s : State) (i : Nat) : Except Fault PixelCode :=
  match s.bm.read i with
  | some pixel => s.code pixel i
  | none => .error .bitmapIndex

/-- The two codes of the `k`-th packed byte, even pixel `2k` first (R101, R123). -/
def State.codePair (s : State) (k : Nat) : Except Fault (PixelCode × PixelCode) :=
  match s.codeAt (2 * k), s.codeAt (2 * k + 1) with
  | .ok a, .ok b => .ok (a, b)
  | .error e, _ => .error e
  | .ok _, .error e => .error e

/-- `PACK(k)` (R123). -/
def State.pack (s : State) (k : Nat) : Except Fault Byte :=
  match s.codePair k with
  | .ok (a, b) => .ok (packCodes a b)
  | .error e => .error e

end Sys2Proof.Machine
end

