-- ==== Sys2Proof/Machine/Transmission.lean ====
section
/-!
DEFINITION. The pixel stream and the commit (42_transmission.md): PIXEL_BYTE, one pass of the loop of step S36; PIXELS,
the whole loop; COMMIT.
-/

namespace Sys2Proof.Machine

/-- The end of one pass of the loop of S36 (R102): `idx` counts the byte sent, and the step ends when it reaches `NB`
(R15, R16); a failure leaves the loop. At a step other than S36 the rules give no pass: that `idx` is counted and `pc`
kept until `idx` reaches `NB` there too is the model's choice (log 33). -/
def State.settlePixel (s : State) (r : TransportOutcome) : State :=
  match r with
  | .ok => if s.idx + 1 < Config.NB then { s with idx := s.idx + 1 } else { s with idx := s.idx + 1 }.advance
  | .fail => s.signal .transportFailure

/-- PIXEL_BYTE (R50, R102): one transfer of the packed byte of the codes `a` (even pixel) and `b` (odd pixel), one
pass of the loop (log 13). The codes are its operands, whatever the stores hold (log 36). -/
def execPixelByte (a b : PixelCode) (s : State) : Answer :=
  s.duringUpdate (s.withSession ((s.transfer .data (packCodes a b)).settlePixel s.transportAnswer))

/-- One pass of the loop: `DATA pack(idx)` (R101, R102). -/
def State.pixelPass (s : State) : Answer :=
  match s.codePair s.idx with
  | .ok (a, b) => execPixelByte a b s
  | .error f => .fault f

/-- At most `k` passes of the loop, ended by the pass that leaves the step. -/
def pixelLoop : Nat → State → Answer
  | 0, s => .next s
  | k + 1, s =>
    match s.pixelPass with
    | .next t => if t.pc = s.pc then pixelLoop k t else .next t
    | .fault f => .fault f
    | .refused r => .refused r

/-- PIXELS (R102): `idx <- 0`, then `NB` transfers. At a step other than S36: log 33. -/
def execPixels (s : State) : Answer := s.duringUpdate (pixelLoop Config.NB { s with idx := 0 })

/-- COMMIT (R106, R35): the Frame State becomes the bitmap, a copy (D21; log 28); no event. At a step other than S39:
log 33. -/
def execCommit (s : State) : Answer :=
  s.duringUpdate (if s.bm.wf then .next (s.storeFrame s.bm).advance else .fault .frameStateLength)

end Sys2Proof.Machine
end

