-- ==== Sys2Proof/Machine/Update.lean ====
section
/-!
DEFINITION. The host's operation and what frames it (40_update.md): UPDATE, CHECK, RET, and RSTPULSE (41_power_on.md
R76).
-/

namespace Sys2Proof.Machine

/-- UPDATE (R65, R15): accepted in IDLE, it takes `pc` to S00; refused while an update is in flight (D14). -/
def execUpdate (bm : Memory) (s : State) : Answer :=
  if s.pc = .idle then .next ({ s with bm := bm }.goto (.step 0)) else .refused .updateInFlight

/-- CHECK (R68): `err <- none`; on another length than `N` the error is logged and latched, and control goes to `RET`
(S47). At a step other than S00: log 33. -/
def execCheck (len : Nat) (s : State) : Answer :=
  s.duringUpdate
    (.next
      (if len = Config.N then { s with err := none }.advance
       else
        ({ s with err := some .invalidDimensions }.emit (.log .error .invalidDimensions)).goto (.step 47)))

/-- RET (R66): the result is handed to the host and the block is idle. At a step other than S47: log 33. -/
def execRet (s : State) : Answer := s.duringUpdate (.next ((s.emit (.ret s.result)).goto .idle))

/-- One LINE step and the DELAY step after it (R76). -/
def State.holdReset (s : State) (v : Level) (ms : Nat) : State :=
  ((s.drive .rst v).advance.emit (.delay ms)).advance

/-- RSTPULSE (R76): first level and hold, other level and gap, first level and hold: six steps. At a step other than
S01: log 33. -/
def execRstpulse (s : State) : Answer :=
  s.duringUpdate
    (.next
      (((s.holdReset s.params.rstActiveLevel Config.tRstHold).holdReset (flipLevel s.params.rstActiveLevel)
        Config.tRstGap).holdReset s.params.rstActiveLevel Config.tRstHold))

end Sys2Proof.Machine
end

