-- ==== Sys2Proof/Machine/Dispatch.lean ====
section
/-! DEFINITION. The meaning of every instruction, one arm per row of spec/opcode_table.json. -/

namespace Sys2Proof.Machine

def exec (i : Instr) (s : State) : Host.Outcome State Fault Refusal :=
  match i with
  | .powerSetting => Sys2Proof.Machine.execPowerSetting s
  | .panelSetting => Sys2Proof.Machine.execPanelSetting s
  | .boosterSoftStart => Sys2Proof.Machine.execBoosterSoftStart s
  | .powerOn => Sys2Proof.Machine.execPowerOn s
  | .pllControl => Sys2Proof.Machine.execPllControl s
  | .vcomDataInterval => Sys2Proof.Machine.execVcomDataInterval s
  | .tcon => Sys2Proof.Machine.execTcon s
  | .resolutionSetting => Sys2Proof.Machine.execResolutionSetting s
  | .powerSetting2 => Sys2Proof.Machine.execPowerSetting2 s
  | .flashMode => Sys2Proof.Machine.execFlashMode s
  | .startDataTransmission => Sys2Proof.Machine.execStartDataTransmission s
  | .displayRefresh => Sys2Proof.Machine.execDisplayRefresh s
  | .powerOff => Sys2Proof.Machine.execPowerOff s
  | .deepSleep => Sys2Proof.Machine.execDeepSleep s
  | .dataByte d => Sys2Proof.Machine.execDataByte d s
  | .pixelByte a b => Sys2Proof.Machine.execPixelByte a b s
  | .update bm => Sys2Proof.Machine.execUpdate bm s
  | .check len => Sys2Proof.Machine.execCheck len s
  | .rstpulse => Sys2Proof.Machine.execRstpulse s
  | .line l v => Sys2Proof.Machine.execLine l v s
  | .delay ms => Sys2Proof.Machine.execDelay ms s
  | .openTransport mode hz => Sys2Proof.Machine.execOpenTransport mode hz s
  | .write b => Sys2Proof.Machine.execWrite b s
  | .xfer k b => Sys2Proof.Machine.execXfer k b s
  | .cmd b => Sys2Proof.Machine.execCmd b s
  | .data b => Sys2Proof.Machine.execData b s
  | .wait ms policy => Sys2Proof.Machine.execWait ms policy s
  | .pixels => Sys2Proof.Machine.execPixels s
  | .commit => Sys2Proof.Machine.execCommit s
  | .closeTransport => Sys2Proof.Machine.execCloseTransport s
  | .log sev what => Sys2Proof.Machine.execLog sev what s
  | .ret => Sys2Proof.Machine.execRet s

end Sys2Proof.Machine
end

