-- ==== Sys2Proof/Machine/Fetch.lean ====
section
/-!
DEFINITION. The fixed step list (40_update.md R67) and what the sequencer runs next (R69, R71): in IDLE the host's next
request, at S36 the next byte of the pixel stream, at every other step the list's entry. The list is fixed: nothing
writes it (20_memory.md R41).
-/

namespace Sys2Proof.Machine

/-- S00 to S07: the check, the reset pulse, the open (R68, R76, R78). -/
def stepsOpening (p : Params) (len : Nat) : List Instr :=
  [.check len, .line .rst p.rstActiveLevel, .delay Config.tRstHold, .line .rst (flipLevel p.rstActiveLevel),
   .delay Config.tRstGap, .line .rst p.rstActiveLevel, .delay Config.tRstHold,
   .openTransport Config.spiMode Config.spiHz]

/-- S08 to S34: the ten init frames and the wait after Power On (R80 to R90). -/
def stepsInit : List Instr :=
  [.powerSetting, .dataByte 0x37, .dataByte 0x00,
   .panelSetting, .dataByte 0xCF, .dataByte 0x08,
   .boosterSoftStart, .dataByte 0xC7, .dataByte 0xCC, .dataByte 0x28,
   .powerOn, .wait Config.tInitBusy (.fatal .initTimeout),
   .pllControl, .dataByte 0x3C,
   .vcomDataInterval, .dataByte 0x77,
   .tcon, .dataByte 0x22,
   .resolutionSetting, .dataByte (highByte widthHalf), .dataByte (lowByte widthHalf),
   .dataByte (highByte heightHalf), .dataByte (lowByte heightHalf),
   .powerSetting2, .dataByte 0x1E,
   .flashMode, .dataByte 0x03]

/-- S35 to S39: the transmission sequence (R100 to R106). -/
def stepsTransmission : List Instr :=
  [.startDataTransmission, .pixels, .displayRefresh, .wait Config.tRefreshBusy (.warn .refreshTimeout), .commit]

/-- S40 to S47: the power-down sequence and the return (R111 to R116). -/
def stepsPowerDown : List Instr :=
  [.powerOff, .wait Config.tOffBusy (.warn .powerOffTimeout), .deepSleep, .dataByte 0xA5, .closeTransport,
   .line .rst .high, .line .dc .high, .ret]

/-- The step list S00 to S47 (R67), for the open parameters and the length of the bitmap in flight. -/
def stepList (p : Params) (len : Nat) : List Instr :=
  stepsOpening p len ++ stepsInit ++ stepsTransmission ++ stepsPowerDown

/-- The entry of step `n`. The list has 48 entries, so the default is never taken. -/
def listing (p : Params) (len : Nat) (n : Fin 48) : Instr := (stepList p len).getD n.val .ret

/-- What the sequencer does next. -/
inductive Fetched where
  /-- In IDLE, with no request: nothing (R71). -/
  | nothing
  /-- Run the instruction in the state given. -/
  | run (i : Instr) (s : State)
  /-- The loop of S36 has sent all its bytes: leave the step (R69). -/
  | leave (s : State)
  /-- The next pixel cannot be read. -/
  | stop (f : Fault)
  deriving DecidableEq, Repr

/-- At S36: the next byte of the stream (log 13), or the end of the loop (R102). -/
def State.fetchPixel (s : State) : Fetched :=
  if s.idx < Config.NB then
    match s.codePair s.idx with
    | .ok (a, b) => .run (.pixelByte a b) s
    | .error f => .stop f
  else .leave s.advance

/-- What the sequencer runs next. -/
def State.fetch (s : State) : Fetched :=
  match s.pc with
  | .idle =>
    match s.requests with
    | [] => .nothing
    | bm :: rest => .run (.update bm) { s with requests := rest }
  | .step n => if n = 36 then s.fetchPixel else .run (listing s.params s.bm.length n) s

/-! ### Placing a symbol where the sequencer runs it next -/

/-- A two-pixel bitmap head and a white rest, `N` cells in all. -/
def pairMemory (x y : Bool) : Memory := x :: y :: List.replicate (Config.N - 2) false

/-- The prior pixel under which a pixel has this code when a Frame State exists (R121). -/
def priorPixel (c : PixelCode) : Bool := if c.isNoRefresh then c.isBlack else !c.isBlack

/-- Select the step that sends this symbol (log 15): a pixel byte is byte 0 of the stream of a bitmap and a Frame State
with the codes wanted; any other symbol is sent by the first step that lists it, in an open session. -/
def State.place (s : State) (i : Instr) : State :=
  match i with
  | .pixelByte a b =>
    { s with
      pc := .step 36, idx := 0, sessionOpen := true, fsValid := true, bm := pairMemory a.isBlack b.isBlack,
      fs := pairMemory (priorPixel a) (priorPixel b) }
  | j =>
    match (stepList s.params s.bm.length).findIdx? (fun k => k == j) with
    | none => s
    | some n => if h : n < 48 then { s with pc := .step ⟨n, h⟩, sessionOpen := true } else s

end Sys2Proof.Machine
end

