-- ==== Sys2Proof/Machine/Step.lean ====
section
/-! DEFINITION. One step of the block: what the sequencer runs next (40_update.md R69), run. -/

namespace Sys2Proof.Machine

/-- One step: in IDLE without a request nothing changes (R71); at a step, its entry of the list is executed. -/
def step (s : State) : Host.Outcome State Fault Refusal :=
  match s.fetch with
  | .nothing => .next s
  | .run i t => exec i t
  | .leave t => .next t
  | .stop f => .fault f

/-- `s` with the symbol's step selected as the next one to run (log 15). -/
def State.withFetchWord (s : State) (nbits w : Nat) : State :=
  match decodeTableWord nbits w with
  | some i => s.place i
  | none => s

end Sys2Proof.Machine
end

