-- ==== Sys2Proof/Safety.lean ====
section
/-!
DEFINITION. The terms the claims are made in: the invariants of the state (10_state.md R22, R23, 20_memory.md R31), the
readings of a trace (45_bus_primitives.md R130, R131), the expected event lists, and the bound on an update.
-/

namespace Sys2Proof.Machine

/-! ### Invariants -/

/-- A session is open exactly during S08 to S44 (R12, R23, R133, R140). -/
def State.SessionInv (s : State) : Prop :=
  s.sessionOpen = match s.pc with
    | .idle => false
    | .step n => decide (8 ≤ n.val ∧ n.val ≤ 44)

/-- No error is latched while the steps outside the power-down sequence run (R68, R157). -/
def State.ErrorInv (s : State) : Prop :=
  match s.pc with
  | .idle => True
  | .step n => 1 ≤ n.val → n.val ≤ 39 → s.err = none

/-- After the length check and until power-down begins the bitmap in flight has `N` pixels (R68). -/
def State.BitmapInv (s : State) : Prop :=
  match s.pc with
  | .idle => True
  | .step n => 1 ≤ n.val → n.val ≤ 46 → s.bm.wf

/-- In S36 there is a byte left to send (R15, R16, R31). -/
def State.IndexInv (s : State) : Prop := s.pc = .step 36 → s.idx < Config.NB

/-- Whenever `fs_valid` is true the Frame State has its `N` pixels (R22). -/
def State.FrameInv (s : State) : Prop := s.fsValid = true → s.fs.wf

/-- The invariant of the block: the first four above, and the Frame State store has its `N` cells, whether or not it is
valid (R32), so that R22 holds. -/
structure State.Inv (s : State) : Prop where
  session : s.SessionInv
  error : s.ErrorInv
  bitmap : s.BitmapInv
  index : s.IndexInv
  store : s.fs.wf

/-- The reset line holds its active level from the last drive of the pulse to the power-down, and both idle lines are
`High` when an update that passed the length check returns (R71, R76, R115). -/
def State.LineInv (s : State) : Prop :=
  match s.pc with
  | .idle => True
  | .step n =>
    (6 ≤ n.val → n.val ≤ 45 → s.rst = some s.params.rstActiveLevel) ∧
    (n.val = 46 → s.rst = some .high) ∧
    (n.val = 47 → s.err ≠ some .invalidDimensions → s.rst = some .high ∧ s.dc = some .high)

/-! ### Readings of a trace -/

/-- The wire symbols of a trace: for each `Write`, the command-select state in force and the byte (R45, R130). `dc` is
the level of the command-select line before the trace; a write with the line never driven has no symbol. -/
def busSymbols (p : Params) : Option Level → List Event → List Symbol
  | _, [] => []
  | _, .line .dc v :: es => busSymbols p (some v) es
  | none, .write _ _ :: es => busSymbols p none es
  | some v, .write b _ :: es =>
    Symbol.mk (if v = p.dcCommandLevel then .command else .data) b :: busSymbols p (some v) es
  | dc, .line .rst _ :: es => busSymbols p dc es
  | dc, .line .cs _ :: es => busSymbols p dc es
  | dc, .delay _ :: es => busSymbols p dc es
  | dc, .openTransport _ _ _ :: es => busSymbols p dc es
  | dc, .wait _ _ :: es => busSymbols p dc es
  | dc, .closeTransport _ :: es => busSymbols p dc es
  | dc, .log _ _ :: es => busSymbols p dc es
  | dc, .ret _ :: es => busSymbols p dc es

/-- The byte of a `Write` event. -/
def Event.writtenByte : Event → Option Byte
  | .write b _ => some b
  | .line _ _ | .delay _ | .openTransport _ _ _ | .wait _ _ | .closeTransport _ | .log _ _ | .ret _ => none

/-- The bytes handed to the transport, in order, the failed attempt included (R72). -/
def writtenBytes (es : List Event) : List Byte := es.filterMap Event.writtenByte

/-- The level a line has, among the last driven levels of the three lines. -/
def lineLevel (rst dc cs : Option Level) : Line → Option Level
  | .rst => rst
  | .dc => dc
  | .cs => cs

/-- A trace without the drives of a line to the level it already has, which are unobservable (R131); the arguments are
the levels before the trace. -/
def observable (rst dc cs : Option Level) : List Event → List Event
  | [] => []
  | .line l v :: es =>
    let rest := observable (if l = .rst then some v else rst) (if l = .dc then some v else dc)
      (if l = .cs then some v else cs) es
    if lineLevel rst dc cs l = some v then rest else .line l v :: rest
  | .delay ms :: es => .delay ms :: observable rst dc cs es
  | .openTransport m h r :: es => .openTransport m h r :: observable rst dc cs es
  | .write b r :: es => .write b r :: observable rst dc cs es
  | .wait ms o :: es => .wait ms o :: observable rst dc cs es
  | .closeTransport r :: es => .closeTransport r :: observable rst dc cs es
  | .log sev what :: es => .log sev what :: observable rst dc cs es
  | .ret res :: es => .ret res :: observable rst dc cs es

/-! ### Expected event lists -/

/-- The chip-select drives before the write, by slot (R136). -/
def drivesBefore : ByteSlot → List Level
  | .afterFirstLow => [.low]
  | .afterHigh => [.low, .high]
  | .afterSecondLow => [.low, .high, .low]

/-- The chip-select drives after a write that succeeded, by slot (R136). -/
def drivesAfter : ByteSlot → List Level
  | .afterFirstLow => [.high, .low]
  | .afterHigh => [.low]
  | .afterSecondLow => []

/-- The command-select level of a transfer: `DC_COMMAND_LEVEL` for a command, the other level for data (R136). -/
def dcFor (p : Params) (k : Select) : Level :=
  if k = .command then p.dcCommandLevel else if p.dcCommandLevel = .low then .high else .low

/-- The events of one transfer with outcome `r` (R136). -/
def transferEvents (p : Params) (k : Select) (b : Byte) (r : TransportOutcome) : List Event :=
  .line .dc (dcFor p k) :: (drivesBefore p.csByteSlot).map (.line .cs) ++ [.write b r] ++
    (if r = .ok then (drivesAfter p.csByteSlot).map (.line .cs) else [])

/-- The level of chip-select after a transfer with outcome `r` (R136). -/
def csAfter (p : Params) (r : TransportOutcome) : Level :=
  if r = .fail ∧ p.csByteSlot = .afterHigh then .high else .low

/-- `s` after one transfer with the outcome drawn: the events, the two lines, and the draw (R136). -/
def State.sent (s : State) (k : Select) (b : Byte) : State :=
  { s with
    trace := s.trace ++ transferEvents s.params k b s.transportAnswer
    dc := some (dcFor s.params k)
    cs := some (csAfter s.params s.transportAnswer)
    transportAnswers := s.transportAnswers.tail
    transportDraws := s.transportDraws + 1 }

/-- `s` at step `m`; step S36 begins with `idx` 0 (R15, R16), and every other with `idx` as it was (log 9). -/
def State.toStep (s : State) (m : Fin 48) : State :=
  { s with pc := .step m, idx := if m = 36 then 0 else s.idx }

/-- `s` with the error latched, unless one is already (R156 (c)). -/
def State.withError (s : State) (e : ErrorKind) : State := { s with err := some (s.err.getD e) }

/-- `s` after a step `n` whose transport call left the state `t` (R157, R158): at the next step `m` after `Ok`; after
`Fail` at `PD` (S40) when `n` is outside the power-down sequence, else at the next step, the error latched. -/
def State.afterCall (t : State) (r : TransportOutcome) (n m : Fin 48) : State :=
  if r = .ok then t.toStep m
  else if n.val < 40 then (t.withError .transportFailure).toStep 40
  else (t.withError .transportFailure).toStep m

/-- The symbol a step of one transfer sends, by form (R47, R137, R138). -/
def sentSymbol (p : Params) : Instr → Option (Select × Byte)
  | .powerSetting => some (.command, p.cmdPowerSetting)
  | .panelSetting => some (.command, p.cmdPanelSetting)
  | .boosterSoftStart => some (.command, p.cmdBoosterSoftStart)
  | .powerOn => some (.command, p.cmdPowerOn)
  | .pllControl => some (.command, p.cmdPllControl)
  | .vcomDataInterval => some (.command, p.cmdVcomDataInterval)
  | .tcon => some (.command, p.cmdTcon)
  | .resolutionSetting => some (.command, p.cmdResolution)
  | .powerSetting2 => some (.command, p.cmdPowerSetting2)
  | .flashMode => some (.command, p.cmdFlashMode)
  | .startDataTransmission => some (.command, 0x10)
  | .displayRefresh => some (.command, 0x12)
  | .powerOff => some (.command, 0x02)
  | .deepSleep => some (.command, 0x07)
  | .dataByte d => some (.data, d)
  | .cmd b => some (.command, b)
  | .data b => some (.data, b)
  | .pixelByte _ _ | .update _ | .check _ | .rstpulse | .line _ _ | .delay _ | .openTransport _ _ => none
  | .write _ | .xfer _ _ | .wait _ _ | .pixels | .commit | .closeTransport | .log _ _ | .ret => none

/-- The init stream before the wait after Power On, S08 to S18 (R80 to R83, R91). -/
def initBeforeWait (p : Params) : List (Select × Byte) :=
  [(.command, p.cmdPowerSetting), (.data, 0x37), (.data, 0x00),
   (.command, p.cmdPanelSetting), (.data, 0xCF), (.data, 0x08),
   (.command, p.cmdBoosterSoftStart), (.data, 0xC7), (.data, 0xCC), (.data, 0x28),
   (.command, p.cmdPowerOn)]

/-- The init stream after that wait, S20 to S34 (R85 to R91). -/
def initAfterWait (p : Params) : List (Select × Byte) :=
  [(.command, p.cmdPllControl), (.data, 0x3C),
   (.command, p.cmdVcomDataInterval), (.data, 0x77),
   (.command, p.cmdTcon), (.data, 0x22),
   (.command, p.cmdResolution), (.data, 0x02), (.data, 0x80), (.data, 0x01), (.data, 0x80),
   (.command, p.cmdPowerSetting2), (.data, 0x1E),
   (.command, p.cmdFlashMode), (.data, 0x03)]

/-- The events of a list of transfers that all succeed. -/
def goodTransfers (p : Params) (ws : List (Select × Byte)) : List Event :=
  ws.flatMap (fun w => transferEvents p w.1 w.2 .ok)

/-- The packed byte of the pixels `2k` and `2k+1` of a bitmap against an optional earlier frame (R101, R121). -/
def packedByte (prev : Option Memory) (bm : Memory) (k : Nat) : Byte :=
  let code (i : Nat) : PixelCode := code1 (bm.getD i false) (prev.map (fun m => m.getD i false))
  packCodes (code (2 * k)) (code (2 * k + 1))

/-- The earlier frame the encoder compares with: none while the Frame State is absent (R121). -/
def State.prevFrame (s : State) : Option Memory := if s.fsValid then some s.fs else none

/-- The stream of a frame: `NB` packed bytes in ascending order (R102). -/
def packedStream (prev : Option Memory) (bm : Memory) : List Byte :=
  (List.range Config.NB).map (packedByte prev bm)

/-- The outcome that the `j`-th transport call from here on will have, counting from 0. -/
def State.transportAnswerAt (s : State) (j : Nat) : TransportOutcome :=
  (s.transportAnswers[j]?).getD (Config.transportOutcome (s.transportDraws + j))

/-- The outcome that the `j`-th busy wait from here on will have, counting from 0. -/
def State.waitAnswerAt (s : State) (j : Nat) : WaitOutcome :=
  (s.waitAnswers[j]?).getD (Config.waitOutcome (s.waitDraws + j))

/-! ### The bound on an update -/

/-- How many steps are left until the update has returned, at most (R70). -/
def State.stepsLeft (s : State) : Nat :=
  match s.pc with
  | .idle => 0
  | .step n =>
    if n.val < 36 then (48 - n.val) + Config.NB
    else if n.val = 36 then 12 + (Config.NB - s.idx)
    else 48 - n.val

end Sys2Proof.Machine
end

