-- ==== Sys2Proof/Certificates/Slice0/Obligations.lean ====
section
/-!
DEFINITION. The statements for the provers. Each docstring names the rule of spec/ it formalises. An equation of the
form `exec i s = .next t` with `t` written as `s` with some fields changed is at once the instruction's result, its
frame (every field not written there is unchanged: the lines, the Frame State and every cell of it, the parameters,
the inputs), and its completion. Where such an equation gives `idx` outside S36, kept as it was, that value is the
model's choice (log 9): the spec lets it be any (U4). In every statement `s.transportAnswer` and `s.waitAnswer` are
the free draws of the environment (D26, D7; log 5, log 6), and `pc`, `idx`, `err` and the numbered steps are the
spec's own decomposition (D16; log 35).
-/

open Sys2Proof Sys2Proof.Machine

/-! ### Reset and invariants -/

/-- R175: what reset leaves, and that the block waits in IDLE and enters every update at S00. The values of `fs` and
`idx`, which the rule leaves unspecified, are not stated. That the three lines are none, not driven, is the spec's own
decision D15 (log 10); that there are pc and err, with IDLE and none at reset, its D16 (log 35); that a request is an
entry of the list requests is the model's choice (log 7). -/
def Obligations.ResetLeavesTheStatedValues : Prop :=
  State.reset.fsValid = false ∧ State.reset.sessionOpen = false ∧ State.reset.pc = .idle ∧
  State.reset.err = none ∧ State.reset.rst = none ∧ State.reset.dc = none ∧ State.reset.cs = none ∧
  step State.reset = .next State.reset ∧
  ∀ bm : Memory, ∃ t, step { State.reset with requests := [bm] } = .next t ∧ t.pc = .step 0

/-- Reset meets the invariants. That the parameters are pairwise distinct there rests on the defaults of log 3. The
Frame State store has its `N` cells there by the model's choice (log 8). -/
def Obligations.ResetMeetsTheInvariants : Prop :=
  State.reset.Inv ∧ State.reset.LineInv ∧ State.reset.params.distinct

/-- From every state that meets the invariant a step answers a next state, which meets it too: no fault and no refusal
of the model is ever reached, whatever the environment answers. Where control goes after a failed OPEN and inside
power-down, and that no session is left after a failed CLOSE, are the spec's own decisions D10 (log 22) and D11 (log
23); the N cells at reset (log 8), one byte a step at S36 (log 13) and the list of requests in IDLE (log 7) are the
model's choices. -/
def Obligations.StepKeepsTheInvariantAndNeverStops : Prop :=
  ∀ s : State, s.Inv → ∃ t, step s = .next t ∧ t.Inv

/-- R22: whenever `fs_valid` is true the Frame State has `N` pixels: so at reset, and kept by every instruction and
every step, in every state. And the store has its `N` cells whether or not it is valid (R11, R32): so at reset, where
the store is the model's choice (log 8), and kept by every instruction. -/
def Obligations.FrameStateLengthIsKept : Prop :=
  State.reset.FrameInv ∧
  (∀ (i : Instr) (s t : State), exec i s = .next t →
    (s.fsValid = true → s.fs.length = Config.N) → (t.fsValid = true → t.fs.length = Config.N)) ∧
  (∀ s t : State, step s = .next t → s.FrameInv → t.FrameInv) ∧
  State.reset.fs.length = Config.N ∧
  (∀ (i : Instr) (s t : State), exec i s = .next t → s.fs.length = Config.N → t.fs.length = Config.N)

/-- A session is open exactly during S08 to S44, at reset and kept by every step; so none exists in IDLE. R23 says
that none exists in IDLE; the exact range follows from R12, R69, R133 and R140. That a failed CLOSE leaves no session
at S45 is the spec's own decision D11 (log 23), that a failed OPEN goes to S45 its D10 (log 22), and the step numbers
its D16 (log 35). -/
def Obligations.SessionExistsOnlyInsideAnUpdate : Prop :=
  State.reset.SessionInv ∧
  (∀ s t : State, s.SessionInv → step s = .next t → t.SessionInv) ∧
  (∀ s : State, s.SessionInv → s.pc = .idle → s.sessionOpen = false)

/-- The reset line through an update, and the idle lines at its return (R71, R76, R115). That the reset line is driven
idle before the command-select line is the spec's own decision D13 (log 25). -/
def Obligations.LinesDuringAnUpdate : Prop :=
  ∀ s t : State, s.LineInv → step s = .next t → t.LineInv

/-! ### Whole-machine rules -/

/-- R12: `session_open` is false at reset, becomes true by a successful OPEN and only by that, and false by CLOSE, on
either outcome, and only by that. That CLOSE leaves no session on a failure too is the spec's own decision D11 (R140;
log 23); that OPEN and CLOSE do the same at steps other than S07 and S44 (log 33), and OPEN with other operands (log
36), is the model's choice. -/
def Obligations.SessionWrittenOnlyByOpenAndClose : Prop :=
  State.reset.sessionOpen = false ∧
  (∀ (s t : State) (mode hz : Nat), exec (.openTransport mode hz) s = .next t →
    t.sessionOpen = decide (s.transportAnswer = .ok)) ∧
  (∀ s t : State, exec .closeTransport s = .next t → t.sessionOpen = false) ∧
  ∀ (i : Instr) (s t : State), exec i s = .next t → t.sessionOpen ≠ s.sessionOpen →
    (∃ mode hz, i = .openTransport mode hz ∧ s.transportAnswer = .ok ∧ t.sessionOpen = true) ∨
    (i = .closeTransport ∧ t.sessionOpen = false)

/-- R10: `fs_valid` is false at reset; only COMMIT writes it, to true, and the Frame State with it, as a whole (R11).
That COMMIT copies the bits is the spec's own decision D21 (log 28); that it does so at steps other than S39 is the
model's choice (log 33). -/
def Obligations.FrameStateWrittenOnlyByCommit : Prop :=
  State.reset.fsValid = false ∧
  (∀ (i : Instr) (s t : State), exec i s = .next t → i ≠ .commit → t.fs = s.fs ∧ t.fsValid = s.fsValid) ∧
  (∀ s t : State, exec .commit s = .next t → t.fs = s.bm ∧ t.fsValid = true)

/-- R17: `err` is cleared by CHECK only, a latched error stays, and RET forms the result from it. That the first error
is the one that stays is the spec's own decision D9 (log 21), and that `err` is an element of the state its D16 (log
35); CHECK at a step other than S00 and RET at one other than S47 are the model's choice (log 33). -/
def Obligations.FirstErrorWins : Prop :=
  State.reset.err = none ∧
  (∀ (i : Instr) (s t : State) (e : ErrorKind), exec i s = .next t → (∀ len, i ≠ .check len) → s.err = some e →
    t.err = some e) ∧
  (∀ s t : State, exec (.check Config.N) s = .next t → t.err = none) ∧
  (∀ s t : State, exec .ret s = .next t →
    t.trace = s.trace ++ [.ret (match s.err with | none => .ok | some e => .err e)])

/-- The open parameters are no state (R20), and the bitmap in flight does not change until the next request (R43): no
instruction writes either, but UPDATE, which takes the new bitmap. That parameters, bitmap and pending calls are
fields of State is the model's choice (log 1, log 11, log 7); that nothing writes the bitmap during an update is the
spec's own decision D21 (log 28). -/
def Obligations.ParametersAndBitmapAreFixed : Prop :=
  ∀ (i : Instr) (s t : State), exec i s = .next t →
    t.params = s.params ∧ ((∀ bm, i ≠ .update bm) → t.bm = s.bm) ∧ t.requests = s.requests

/-- Every event stays in the trace, in order: what an instruction emits is appended (R38, R40). That the trace is kept
across updates is the model's choice (log 12). -/
def Obligations.TraceOnlyGrows : Prop :=
  (∀ (i : Instr) (s t : State), exec i s = .next t → ∃ es, t.trace = s.trace ++ es) ∧
  (∀ s t : State, step s = .next t → ∃ es, t.trace = s.trace ++ es)

/-- Where the forms stop: every form but UPDATE in IDLE, where the block emits nothing and changes nothing (R71);
without a session (R135, R140) WRITE, XFER, CLOSE and every form that transfers, that is the fourteen command symbols,
both data symbols, CMD, DATA and PIXELS; OPEN with a session (R133). That these are faults is the model's choice (log
16, log 17). -/
def Obligations.ExcludedContextsStop : Prop :=
  (∀ (i : Instr) (s : State), s.pc = .idle → (∀ bm, i ≠ .update bm) → exec i s = .fault .noUpdateInFlight) ∧
  (∀ (s : State) (k : Select) (b : Byte), s.pc ≠ .idle → s.sessionOpen = false →
    exec (.write b) s = .fault .sessionNotOpen ∧ exec (.xfer k b) s = .fault .sessionNotOpen ∧
    exec (.cmd b) s = .fault .sessionNotOpen ∧ exec (.data b) s = .fault .sessionNotOpen ∧
    exec .closeTransport s = .fault .sessionNotOpen) ∧
  (∀ (i : Instr) (s : State) (k : Select) (b : Byte), s.pc ≠ .idle → s.sessionOpen = false →
    sentSymbol s.params i = some (k, b) → exec i s = .fault .sessionNotOpen) ∧
  (∀ (s : State) (a b : PixelCode), s.pc ≠ .idle → s.sessionOpen = false →
    exec (.pixelByte a b) s = .fault .sessionNotOpen) ∧
  (∀ (s : State) (a b : PixelCode), s.pc ≠ .idle → s.sessionOpen = false → s.codePair 0 = .ok (a, b) →
    exec .pixels s = .fault .sessionNotOpen) ∧
  (∀ (s : State) (mode hz : Nat), s.pc ≠ .idle → s.sessionOpen = true →
    exec (.openTransport mode hz) s = .fault .sessionAlreadyOpen)

/-! ### The host's operation -/

/-- UPDATE is accepted in IDLE, and takes `pc` to S00 (R15, R65); during an update it is refused, the spec's own
decision D14 (log 20). That the bitmap is held in State is the model's choice (log 11). -/
def Obligations.UpdateAcceptedOnlyInIdle : Prop :=
  (∀ (s : State) (bm : Memory), s.pc = .idle → exec (.update bm) s = .next { s with bm := bm, pc := .step 0 }) ∧
  (∀ (s : State) (bm : Memory), s.pc ≠ .idle → exec (.update bm) s = .refused .updateInFlight)

/-- R68: CHECK at S00. That there are err, pc and numbered steps is the spec's own decision D16 (log 35); that idx,
which may be any value there, is kept is the model's choice (log 9). -/
def Obligations.CheckComparesTheLength : Prop :=
  ∀ (s : State) (len : Nat), s.pc = .step 0 →
    exec (.check len) s =
      .next
        (if len = 245760 then { s with err := none, pc := .step 1 }
         else
          { s with
            err := some .invalidDimensions, pc := .step 47
            trace := s.trace ++ [.log .error .invalidDimensions] })

/-- R151: a request of a wrong length returns its error and changes nothing else; the next request of the right length
proceeds. That the calls are a list (log 7) and the bitmap is held in State and kept after the return (log 11) is the
model's choice (DESIGN CHOICE). -/
def Obligations.WrongLengthTouchesNothing : Prop :=
  ∀ (s : State) (bm : Memory) (rest : List Memory), s.pc = .idle → s.requests = bm :: rest → bm.length ≠ 245760 →
    core.run 3 s =
      .next
        { s with
          bm := bm, requests := rest, err := some .invalidDimensions
          trace := s.trace ++ [.log .error .invalidDimensions, .ret (.err .invalidDimensions)] } ∧
    ∀ (bm' : Memory) (rest' : List Memory), rest = bm' :: rest' → bm'.length = 245760 →
      core.run 5 s =
        .next
          { s with
            bm := bm', requests := rest', err := none, pc := .step 1
            trace := s.trace ++ [.log .error .invalidDimensions, .ret (.err .invalidDimensions)] }

/-- R66: RET. The list gives it at S47; that the same rule runs at the other steps is the model's choice (log 33). -/
def Obligations.RetReturnsTheResult : Prop :=
  ∀ (s : State) (n : Fin 48), s.pc = .step n →
    exec .ret s =
      .next
        { s with
          pc := .idle
          trace := s.trace ++ [.ret (match s.err with | none => .ok | some e => .err e)] }

/-- R71, first sentence: in IDLE, with no request, a step changes nothing. That the host's calls are a list in State
is the model's choice (log 7). -/
def Obligations.IdleChangesNothing : Prop :=
  ∀ s : State, s.pc = .idle → s.requests = [] → step s = .next s

/-- R55: the result codes. The numbers are the spec's own choice D8, since the document gives names only (log 32). -/
def Obligations.ResultCodes : Prop :=
  UpdateResult.ok.code = 0 ∧ (UpdateResult.err .invalidDimensions).code = 1 ∧
  (UpdateResult.err .initTimeout).code = 2 ∧ (UpdateResult.err .transportFailure).code = 3

/-! ### Lines, delays and the reset pulse -/

/-- R131: LINE, as a step. That it ends its step is the model's inference (log 18), and what it does at the steps where
the list has no LINE its choice (log 33). -/
def Obligations.LineDrivesAndHolds : Prop :=
  ∀ (s : State) (l : Line) (v : Level) (n m : Fin 48), s.pc = .step n → m.val = n.val + 1 →
    exec (.line l v) s =
      .next
        { s.toStep m with
          trace := s.trace ++ [.line l v]
          rst := if l = .rst then some v else s.rst
          dc := if l = .dc then some v else s.dc
          cs := if l = .cs then some v else s.cs }

/-- R134: DELAY, as a step. That it ends its step is the model's inference (log 18), that it is an event and no time
the spec's D6 and D22 (log 26), and what it does at the steps where the list has no DELAY the model's choice (log 33).
Bounds other than the list's 200 and 10 are run by the model's choice (log 36). -/
def Obligations.DelayIsAnEvent : Prop :=
  ∀ (s : State) (ms : Nat) (n m : Fin 48), s.pc = .step n → m.val = n.val + 1 →
    exec (.delay ms) s = .next { s.toStep m with trace := s.trace ++ [.delay ms] }

/-- R76: RSTPULSE from S01 is the six steps S01 to S06, and six steps of the machine do the same. RSTPULSE is a macro
that the list spells out: that it moves `pc` by six steps when executed is the model's (log 18, log 33), and that a
delay is an event the spec's own D6 and D22 (log 26). -/
def Obligations.ResetPulse : Prop :=
  ∀ s : State, s.pc = .step 1 →
    let a := s.params.rstActiveLevel
    let na := if a = .low then Level.high else Level.low
    let t : State :=
      { s with
        pc := .step 7, rst := some a
        trace := s.trace ++ [.line .rst a, .delay 200, .line .rst na, .delay 10, .line .rst a, .delay 200] }
    exec .rstpulse s = .next t ∧ core.run 6 s = .next t

/-! ### The transport -/

/-- R78, R133: OPEN at S07; `Ok` opens the session, `Fail` raises `TransportFailure` and goes to `PDL` (S45), which is
the spec's own decision D10 (R157; log 22). That an error latched before stays is its D9 (log 21); operands other than
the list's 0 and 4000000 are run by the model's choice (log 36). -/
def Obligations.OpenOpensOrRaises : Prop :=
  ∀ (s : State) (mode hz : Nat), s.pc = .step 7 → s.sessionOpen = false →
    exec (.openTransport mode hz) s =
      .next
        (if s.transportAnswer = .ok then
          { s with
            sessionOpen := true, pc := .step 8, trace := s.trace ++ [.openTransport mode hz .ok]
            transportAnswers := s.transportAnswers.tail, transportDraws := s.transportDraws + 1 }
         else
          { s with
            err := some (s.err.getD .transportFailure), pc := .step 45
            trace := s.trace ++ [.openTransport mode hz .fail]
            transportAnswers := s.transportAnswers.tail, transportDraws := s.transportDraws + 1 })

/-- R135: WRITE, inside a step, in an open session. That the outcome is a free draw is the spec's own decision D26,
and how it is drawn the model's (log 5); that WRITE executed alone leaves pc as it is, a call inside a step, is its
inference (log 18). -/
def Obligations.WriteHandsOverOneByte : Prop :=
  ∀ (s : State) (b : Byte), s.pc ≠ .idle → s.sessionOpen = true →
    exec (.write b) s =
      .next
        { s with
          trace := s.trace ++ [.write b s.transportAnswer]
          transportAnswers := s.transportAnswers.tail, transportDraws := s.transportDraws + 1 }

/-- R136: XFER, for the three values of `CS_BYTE_SLOT` and both outcomes; `s.transportAnswer` is what it returns. That
the command-select drive comes first is the spec's own decision D4 (log 25), and that the drives after a failed write
are dropped its D12 (log 24). That XFER executed alone leaves pc as it is, a call inside a step, is the model's
inference (log 18). -/
def Obligations.XferPulsesChipSelect : Prop :=
  ∀ (s : State) (k : Select) (b : Byte), s.pc ≠ .idle → s.sessionOpen = true →
    let v := if k = .command then s.params.dcCommandLevel
      else if s.params.dcCommandLevel = .low then Level.high else Level.low
    let lo : Event := .line .cs .low
    let hi : Event := .line .cs .high
    let w : Event := .write b s.transportAnswer
    let es : List Event :=
      match s.params.csByteSlot, s.transportAnswer with
      | .afterFirstLow, .ok => [.line .dc v, lo, w, hi, lo]
      | .afterFirstLow, .fail => [.line .dc v, lo, w]
      | .afterHigh, .ok => [.line .dc v, lo, hi, w, lo]
      | .afterHigh, .fail => [.line .dc v, lo, hi, w]
      | .afterSecondLow, _ => [.line .dc v, lo, hi, lo, w]
    exec (.xfer k b) s =
      .next
        { s with
          trace := s.trace ++ es
          dc := some v
          cs := some (if s.params.csByteSlot = .afterHigh ∧ s.transportAnswer = .fail then .high else .low)
          transportAnswers := s.transportAnswers.tail, transportDraws := s.transportDraws + 1 }

/-- R137, R138: CMD and DATA as steps of S08 to S46. Inside power-down a failure goes on to the next step by the
spec's decision D11 (R158; log 23); the events of the transfer rest on D4 and D12 (log 25, log 24), and that an error
latched before stays on D9 (log 21). At the steps where the list has no transfer (S19, S36, S38, S39, S41, S44 to S46)
that the same rules run is the model's choice (log 33); that CMD and DATA executed alone end their step is its
inference (log 18). -/
def Obligations.CmdAndDataTransferOneSymbol : Prop :=
  ∀ (s : State) (b : Byte) (n m : Fin 48), s.pc = .step n → m.val = n.val + 1 → 8 ≤ n.val → s.sessionOpen = true →
    exec (.cmd b) s = .next ((s.sent .command b).afterCall s.transportAnswer n m) ∧
    exec (.data b) s = .next ((s.sent .data b).afterCall s.transportAnswer n m)

/-- R47: each of the fourteen command symbols, and the literal data symbol, is the one transfer of its symbol; with
CMD and DATA these are the seventeen forms of one transfer. That a command's row is its one transfer, the data bytes
of its frame being the next steps, is the model's choice (log 13); what a transfer and its failure do rests on the
spec's decisions D11, D12 and D4 (log 23, log 24, log 25), and that an error latched before stays on its D9 (log 21).
At steps the list does not give the form (log 33), and with a literal of no frame (log 36), the same rules run by the
model's choice; CMD and DATA executed alone end their step by its inference (log 18). -/
def Obligations.SymbolFormsTransferTheirSymbol : Prop :=
  ∀ (i : Instr) (k : Select) (b : Byte) (s : State) (n m : Fin 48), sentSymbol s.params i = some (k, b) →
    s.pc = .step n → m.val = n.val + 1 → 8 ≤ n.val → s.sessionOpen = true →
    exec i s = .next ((s.sent k b).afterCall s.transportAnswer n m)

/-- The forms of one transfer at the steps `SymbolFormsTransferTheirSymbol` leaves out: before S07, at S07, where a
failure goes to `PDL`, and at S47, after which comes IDLE. The list has no transfer there: that the same rules run is
the model's choice (log 33). What a transfer and its failure do rests on the spec's decisions D9 (log 21), D10 at S07
(log 22), D11 from S40 on (log 23), D12 (log 24) and D4 (log 25); that a command's row is its one transfer on the
model's choice (log 13). -/
def Obligations.SymbolFormsAtTheOtherSteps : Prop :=
  ∀ (i : Instr) (k : Select) (b : Byte) (s : State), sentSymbol s.params i = some (k, b) → s.sessionOpen = true →
    (∀ n m : Fin 48, s.pc = .step n → m.val = n.val + 1 → n.val < 7 →
      exec i s = .next ((s.sent k b).afterCall s.transportAnswer n m)) ∧
    (s.pc = .step 7 →
      exec i s =
        .next
          (if s.transportAnswer = .ok then (s.sent k b).toStep 8
           else ((s.sent k b).withError .transportFailure).toStep 45)) ∧
    (s.pc = .step 47 →
      exec i s =
        .next
          { s.sent k b with
            pc := .idle
            err := if s.transportAnswer = .ok then s.err else some (s.err.getD .transportFailure) })

/-- R114, R140: CLOSE at S44; no session afterwards, a failure latched and not aborting. No session on either
outcome and going on after a failure are the spec's own decision D11 (log 23), latching only if nothing is latched its
D9 (log 21). -/
def Obligations.CloseEndsTheSession : Prop :=
  ∀ s : State, s.pc = .step 44 → s.sessionOpen = true →
    exec .closeTransport s =
      .next
        { s with
          sessionOpen := false, pc := .step 45, trace := s.trace ++ [.closeTransport s.transportAnswer]
          err := if s.transportAnswer = .fail then some (s.err.getD .transportFailure) else s.err
          transportAnswers := s.transportAnswers.tail, transportDraws := s.transportDraws + 1 }

/-- R45, R189: a transfer puts exactly its symbol on the bus, the command-select line in the right state before the
byte is written, whatever the line's level was. That the level is driven for every byte, first in its transfer, is the
spec's own decision D4 (log 25); that XFER can be executed alone is the model's inference (log 18). -/
def Obligations.TransferPutsItsSymbolOnTheBus : Prop :=
  ∀ (s t : State) (k : Select) (b : Byte), exec (.xfer k b) s = .next t →
    ∃ es, t.trace = s.trace ++ es ∧ busSymbols s.params s.dc es = [Symbol.mk k b]

/-! ### The busy wait and the log -/

/-- R139: WAIT, as a step outside or inside power-down; a fatal time-out is raised (outside: R157), a warning is
logged and the next step run. The list has a fatal wait at S19 and warning waits at S38 and S41 only: what WAIT does
at the other steps (log 33), and with operands of no step (log 36), is the model's choice, and that it ends its step
alone its inference (log 18); that an error latched before stays is the spec's own decision D9 (log 21). -/
def Obligations.WaitFollowsItsPolicy : Prop :=
  ∀ (s : State) (ms : Nat) (policy : WaitPolicy) (n m : Fin 48), s.pc = .step n → m.val = n.val + 1 → n ≠ 7 →
    let t : State :=
      { s with
        trace := s.trace ++ [.wait ms s.waitAnswer]
        waitAnswers := s.waitAnswers.tail, waitDraws := s.waitDraws + 1 }
    exec (.wait ms policy) s =
      .next
        (match s.waitAnswer, policy with
         | .cleared, _ => t.toStep m
         | .timedOut, .fatal e => (t.withError e).toStep (if n.val < 40 then 40 else m)
         | .timedOut, .warn .refreshTimeout =>
           { t.toStep m with trace := t.trace ++ [.log .warning .refreshTimeout] }
         | .timedOut, .warn .powerOffTimeout =>
           { t.toStep m with trace := t.trace ++ [.log .warning .powerOffTimeout] })

/-- R141: LOG, inside a step. The step counter stays, since LOG is a call inside a step (log 18). At steps without one
of the three required entries (log 33), and for a pair that is none of them (log 36), it is the model's choice that
the same rule runs. -/
def Obligations.LogIsAnEvent : Prop :=
  ∀ (s : State) (sev : Severity) (what : LogCondition), s.pc ≠ .idle →
    exec (.log sev what) s = .next { s with trace := s.trace ++ [.log sev what] }

/-! ### The encoder -/

/-- R121, R120: the table of `code1`, and `CODE` as `code1` of the pixel and the prior pixel, which is not read while
`fs_valid` is false. -/
def Obligations.CodeTable : Prop :=
  (code1 true none).bits = 0b00 ∧ (code1 true (some false)).bits = 0b00 ∧ (code1 true (some true)).bits = 0b01 ∧
  (code1 false none).bits = 0b11 ∧ (code1 false (some true)).bits = 0b11 ∧ (code1 false (some false)).bits = 0b10 ∧
  (∀ (s : State) (pixel : Bool) (index : Nat), s.fsValid = false → s.code pixel index = .ok (code1 pixel none)) ∧
  (∀ (s : State) (pixel q : Bool) (index : Nat), s.fsValid = true → s.fs[index]? = some q →
    s.code pixel index = .ok (code1 pixel (some q)))

/-- R122: the logic equations give the same code; with no Frame State the prior pixel does not matter. -/
def Obligations.GateEquations : Prop :=
  ∀ p q : Bool, codeGate p q true = (code1 p (some q)).bits ∧ codeGate p q false = (code1 p none).bits ∧
    (codeGate p q true).getLsbD 1 = !p ∧ (codeGate p q true).getLsbD 0 = (!p ^^ !(p ^^ q)) ∧
    (codeGate p q false).getLsbD 1 = !p ∧ (codeGate p q false).getLsbD 0 = !p

/-- R120, R123: `PACK(k)` of the stores, for every `k` of the stream: the table of R121 on the two pixels, even pixel
in the high nibble; the Frame State is read only when it is valid. -/
def Obligations.PackReadsTheStores : Prop :=
  ∀ (s : State) (k : Nat), k < Config.NB → s.bm.length = Config.N → (s.fsValid = true → s.fs.length = Config.N) →
    s.pack k = .ok (packedByte s.prevFrame s.bm k) ∧
    (packedByte s.prevFrame s.bm k).extractLsb' 4 4 =
      0#2 ++ (code1 (s.bm.getD (2 * k) false) (s.prevFrame.map (fun m => m.getD (2 * k) false))).bits ∧
    (packedByte s.prevFrame s.bm k).extractLsb' 0 4 =
      0#2 ++ (code1 (s.bm.getD (2 * k + 1) false) (s.prevFrame.map (fun m => m.getD (2 * k + 1) false))).bits

/-- R51: only sixteen values occur as a packed pixel byte. -/
def Obligations.OnlySixteenPackedBytes : Prop :=
  ∀ (prev : Option Memory) (bm : Memory) (k : Nat),
    packedByte prev bm k ∈
      ([0x00, 0x01, 0x02, 0x03, 0x10, 0x11, 0x12, 0x13, 0x20, 0x21, 0x22, 0x23, 0x30, 0x31, 0x32, 0x33] : List Byte)

/-- R124: (a) with no Frame State the stream decodes to the bitmap, (b) with one a code is a no-refresh code if and
only if the pixel is unchanged, (c) with none no code is a no-refresh code. -/
def Obligations.EncoderProperties : Prop :=
  (∀ bm : Memory, bm.length = Config.N →
    (packedStream none bm).flatMap (fun b => [(evenCode b).isBlack, (oddCode b).isBlack]) = bm) ∧
  (∀ (s : State) (i : Nat), i < Config.N → s.bm.length = Config.N → s.fs.length = Config.N → s.fsValid = true →
    ∃ c, s.codeAt i = .ok c ∧ (c.isNoRefresh = true ↔ s.fs[i]? = s.bm[i]?)) ∧
  (∀ (s : State) (i : Nat), i < Config.N → s.bm.length = Config.N → s.fsValid = false →
    ∃ c, s.codeAt i = .ok c ∧ c.isNoRefresh = false ∧ some c.isBlack = s.bm[i]?)

/-- R107 (a): "calling update twice in a row with the same bitmap produces all-no-refresh codes on the second call".
In every state `u` whose Frame State is the one a commit left and whose bitmap in flight is the committed one, every
code is a no-refresh code of the pixel, and a step at S36 sends a byte of two no-refresh codes. An update with the
bitmap that is the Frame State comes, with no failure and no time-out before, to such a state at S36 with `idx` 0.
That COMMIT copies the bits is the spec's own decision D21 (log 28); COMMIT at a step other than S39 (log 33), one
byte a step at S36 (log 13) and the list of requests (log 7) are the model's choices (DESIGN CHOICE). -/
def Obligations.SecondUpdateIsAllNoRefresh : Prop :=
  (∀ s t u : State, exec .commit s = .next t → u.fs = t.fs → u.fsValid = t.fsValid → u.bm = s.bm →
    (∀ i < Config.N, ∃ c, u.codeAt i = .ok c ∧ c.isNoRefresh = true ∧ some c.isBlack = s.bm[i]?) ∧
    (u.pc = .step 36 → u.idx < Config.NB →
      ∃ a b, step u = exec (.pixelByte a b) u ∧ a.isNoRefresh = true ∧ b.isNoRefresh = true)) ∧
  (∀ (s : State) (rest : List Memory), s.Inv → s.pc = .idle → s.requests = s.fs :: rest → s.fsValid = true →
    (∀ j < 28, s.transportAnswerAt j = .ok) → s.waitAnswer = .cleared →
    ∃ u, core.run 37 s = .next u ∧ u.pc = .step 36 ∧ u.idx = 0 ∧ u.sessionOpen = true ∧ u.bm = s.fs ∧
      u.fs = s.fs ∧ u.fsValid = true ∧ ∀ i < Config.N, ∃ c, u.codeAt i = .ok c ∧ c.isNoRefresh = true)

/-! ### Transmission -/

/-- R102: one pass of the loop of S36: the byte sent, `idx` counted, the step left after the last byte, the loop left
at once on a failure. That PIXEL_BYTE is one pass and one step is the model's granularity (log 13); the events of its
transfer rest on the spec's D12 and D4 (log 24, log 25), and `idx` after the step is left, which may be any value
(U4), on log 9. That an error latched before stays is the spec's own D9 (log 21); that the codes sent are the
operands, whatever the stores hold, is the model's (log 36). -/
def Obligations.PixelByteIsOnePassOfTheLoop : Prop :=
  ∀ (s : State) (a b : PixelCode), s.pc = .step 36 → s.sessionOpen = true →
    exec (.pixelByte a b) s =
      .next
        (if s.transportAnswer = .ok then
          { s.sent .data (0#2 ++ a.bits ++ (0#2 ++ b.bits)) with
            idx := s.idx + 1, pc := if s.idx + 1 < 122880 then .step 36 else .step 37 }
         else
          { s.sent .data (0#2 ++ a.bits ++ (0#2 ++ b.bits)) with
            err := some (s.err.getD .transportFailure), pc := .step 40 })

/-- R102: PIXELS. If every write succeeds, the `NB` packed bytes go out in order and S37 is next; if the `j`-th is the
first to fail, exactly `j` bytes and the failed attempt go out, and control is at `PD` with the error latched. In both
cases everything else is unchanged. The events of the transfers rest on the spec's decisions D4 (log 25) and, after
the failed write, D12 (log 24); `idx` afterwards, which may be any value (U4), is the model's choice (log 9). That an
error latched before stays is the spec's own D9 (log 21); that PIXELS executed as one instruction runs the loop to its
end is the model's, whose steps send one byte each (log 13). -/
def Obligations.PixelsSendsTheStream : Prop :=
  ∀ s : State, s.pc = .step 36 → s.sessionOpen = true → s.bm.length = Config.N →
    (s.fsValid = true → s.fs.length = Config.N) →
    let stream : List (Select × Byte) := (packedStream s.prevFrame s.bm).map (fun b => (.data, b))
    ((∀ j < Config.NB, s.transportAnswerAt j = .ok) →
      exec .pixels s =
        .next
          { s with
            pc := .step 37, idx := Config.NB, dc := some (dcFor s.params .data), cs := some .low
            trace := s.trace ++ goodTransfers s.params stream
            transportAnswers := s.transportAnswers.drop Config.NB
            transportDraws := s.transportDraws + Config.NB }) ∧
    (∀ j < Config.NB, (∀ i < j, s.transportAnswerAt i = .ok) → s.transportAnswerAt j = .fail →
      exec .pixels s =
        .next
          { s with
            pc := .step 40, idx := j, err := some (s.err.getD .transportFailure)
            dc := some (dcFor s.params .data), cs := some (csAfter s.params .fail)
            trace := s.trace ++ goodTransfers s.params (stream.take j) ++
              transferEvents s.params .data (packedByte s.prevFrame s.bm j) .fail
            transportAnswers := s.transportAnswers.drop (j + 1)
            transportDraws := s.transportDraws + (j + 1) })

/-- The steps of the machine at S36 do what PIXELS does: after some number of steps, at most `NB`, the machine is
where PIXELS ends (R15, R67, R102). That a step sends one byte is the model's granularity (log 13), and that PIXELS
runs only when executed directly its inference (log 18). -/
def Obligations.StepsAtS36RunPixels : Prop :=
  ∀ s t : State, s.pc = .step 36 → s.idx = 0 → exec .pixels s = .next t → ∃ k ≤ Config.NB, core.run k s = .next t

/-- R35, R106: COMMIT copies the bitmap into the Frame State as one step, with no event. That it is a copy is the
spec's own decision D21 (log 28). The list gives it at S39; that the same rule runs at the other steps is the model's
choice (log 33). -/
def Obligations.CommitCopiesTheBitmap : Prop :=
  ∀ (s : State) (n m : Fin 48), s.pc = .step n → m.val = n.val + 1 → s.bm.length = Config.N →
    exec .commit s = .next { s.toStep m with fs := s.bm, fsValid := true }

/-! ### The step list and control flow -/

/-- R67: the step list. The order of its last two drives is the spec's own decision D13 (R115; log 25). The numbered
steps are the spec's own decomposition D16 (log 35), and delays as entries its D6 (log 26); that an entry is the row
of its symbol, where R67 writes CMD or DATA, is the model's choice (log 13). -/
def Obligations.StepListIsTheDocuments : Prop :=
  ∀ (p : Params) (len : Nat),
    let a := p.rstActiveLevel
    let na := if a = .low then Level.high else Level.low
    stepList p len =
      [.check len, .line .rst a, .delay 200, .line .rst na, .delay 10, .line .rst a, .delay 200,
       .openTransport 0 4000000, .powerSetting, .dataByte 0x37, .dataByte 0x00, .panelSetting, .dataByte 0xCF,
       .dataByte 0x08, .boosterSoftStart, .dataByte 0xC7, .dataByte 0xCC, .dataByte 0x28, .powerOn,
       .wait 5000 (.fatal .initTimeout), .pllControl, .dataByte 0x3C, .vcomDataInterval, .dataByte 0x77,
       .tcon, .dataByte 0x22, .resolutionSetting, .dataByte 0x02, .dataByte 0x80, .dataByte 0x01, .dataByte 0x80,
       .powerSetting2, .dataByte 0x1E, .flashMode, .dataByte 0x03, .startDataTransmission, .pixels,
       .displayRefresh, .wait 40000 (.warn .refreshTimeout), .commit, .powerOff,
       .wait 5000 (.warn .powerOffTimeout), .deepSleep, .dataByte 0xA5, .closeTransport, .line .rst .high,
       .line .dc .high, .ret]

/-- A step runs what the list holds at `pc`; at S36, the next byte of the stream, and past its end the next step; in
IDLE, the host's next request. One byte a step at S36, and that the step past the last byte, which no run reaches,
only moves on, is the model's granularity (log 13); that the host's calls are a list taken in IDLE is its choice (log
7); pc and the numbered steps are the spec's own D16 (log 35). -/
def Obligations.StepRunsTheListedInstruction : Prop :=
  (∀ (s : State) (n : Fin 48) (i : Instr), s.pc = .step n → n ≠ 36 →
    (stepList s.params s.bm.length)[n.val]? = some i → step s = exec i s) ∧
  (∀ (s : State) (a b : PixelCode), s.pc = .step 36 → s.idx < Config.NB → s.codePair s.idx = .ok (a, b) →
    step s = exec (.pixelByte a b) s) ∧
  (∀ s : State, s.pc = .step 36 → Config.NB ≤ s.idx → step s = .next { s with pc := .step 37 }) ∧
  (∀ (s : State) (bm : Memory) (rest : List Memory), s.pc = .idle → s.requests = bm :: rest →
    step s = exec (.update bm) { s with requests := rest })

/-- R69: where control goes from each step, by the outcome drawn there; so in no other way. S45 after a failed OPEN is
the spec's own decision D10 (log 22), and going on after every failure inside power-down its D11 (log 23). One byte a
step at S36 is the model's granularity (log 13), and `pc` and the numbered steps are the spec's own D16 (log 35). -/
def Obligations.ControlMovesAsListed : Prop :=
  ∀ (s : State) (n : Fin 48), s.Inv → s.pc = .step n →
    ∃ t, step s = .next t ∧
      (n.val = 0 → t.pc = if s.bm.length = Config.N then .step 1 else .step 47) ∧
      (n.val = 7 → t.pc = if s.transportAnswer = .ok then .step 8 else .step 45) ∧
      (n.val = 19 → t.pc = if s.waitAnswer = .cleared then .step 20 else .step 40) ∧
      (n.val = 36 → t.pc =
        if s.transportAnswer = .ok then (if s.idx + 1 < Config.NB then .step 36 else .step 37) else .step 40) ∧
      (8 ≤ n.val → n.val ≤ 37 → n.val ≠ 19 → n.val ≠ 36 → s.transportAnswer = .fail → t.pc = .step 40) ∧
      (8 ≤ n.val → n.val ≤ 37 → n.val ≠ 19 → n.val ≠ 36 → s.transportAnswer = .ok →
        ∀ m : Fin 48, m.val = n.val + 1 → t.pc = .step m) ∧
      ((1 ≤ n.val ∧ n.val ≤ 6) ∨ (38 ≤ n.val ∧ n.val ≤ 46) → ∀ m : Fin 48, m.val = n.val + 1 → t.pc = .step m) ∧
      (n.val = 47 → t.pc = .idle)

/-- R157: when a step before power-down latches an error that was not there, control goes to `PDL` from S07, which is
the spec's own decision D10 (log 22), and to `PD` from S08 to S37. The three clauses at the end give the whole state
after: a failed OPEN, the init time-out and a failed transfer leave everything as it was but `err`, `pc`, the step's
own events, the draw, and after a transfer the two lines as the transfer left them. That `idx`, which may then be any
value (U4), is kept is the model's choice (log 9). The two lines after a failed transfer rest on the spec's D12 and D4
(log 24, log 25), and one byte a step at S36 is the model's granularity (log 13). -/
def Obligations.RaiseGoesToPowerDown : Prop :=
  ∀ (s t : State) (n : Fin 48) (e : ErrorKind), s.Inv → s.pc = .step n → 1 ≤ n.val → n.val < 40 →
    step s = .next t → t.err = some e →
    7 ≤ n.val ∧ n.val ≤ 37 ∧ t.pc = .step (if n = 7 then 45 else 40) ∧ t.sessionOpen = s.sessionOpen ∧
      t.rst = s.rst ∧ t.fs = s.fs ∧ t.fsValid = s.fsValid ∧ t.bm = s.bm ∧
      (e = .initTimeout ∨ e = .transportFailure) ∧ (e = .initTimeout ↔ n = 19) ∧
      (n = 7 → s.transportAnswer = .fail ∧
        t =
          { s with
            pc := .step 45, err := some .transportFailure
            trace := s.trace ++ [.openTransport 0 4000000 .fail]
            transportAnswers := s.transportAnswers.tail, transportDraws := s.transportDraws + 1 }) ∧
      (n = 19 → s.waitAnswer = .timedOut ∧
        t =
          { s with
            pc := .step 40, err := some .initTimeout, trace := s.trace ++ [.wait 5000 .timedOut]
            waitAnswers := s.waitAnswers.tail, waitDraws := s.waitDraws + 1 }) ∧
      (n ≠ 7 → n ≠ 19 → s.transportAnswer = .fail ∧
        ∃ k b,
          (if n = 36 then k = .data ∧ s.pack s.idx = .ok b
           else sentSymbol s.params (listing s.params s.bm.length n) = some (k, b)) ∧
          t = { s.sent k b with pc := .step 40, err := some .transportFailure })

/-- R158: inside the power-down sequence every step is followed by the next one; a failing transfer or close latches
`TransportFailure` if nothing is latched yet. Both are the spec's own decisions, D11 (log 23) and D9 (log 21). -/
def Obligations.PowerDownNeverAborts : Prop :=
  ∀ (s : State) (n m : Fin 48), s.Inv → s.pc = .step n → 40 ≤ n.val → n.val ≤ 46 → m.val = n.val + 1 →
    ∃ t, step s = .next t ∧ t.pc = .step m ∧
      t.err =
        if s.transportAnswer = .fail ∧ (n.val = 40 ∨ n.val = 42 ∨ n.val = 43 ∨ n.val = 44) then
          some (s.err.getD .transportFailure)
        else s.err

/-! ### Encoding -/

/-- Decode and encode agree: every well-formed symbol form is read back from its symbol, in its frame, with every
operand at every value (R45 to R51), for all parameters under which the fourteen commands are different (R47). The
block itself decodes nothing (R54): that data symbols are read by their frame is the model's choice (log 14). -/
def Obligations.DecodeReadsBackEverySymbol : Prop :=
  ∀ (p : Params) (i : Instr) (w : Symbol), p.distinct → i.wf = true → encode p i = some w →
    decodeSymbol p i.frame w = .ok i

/-- What is read from a symbol is well formed and has that symbol: one symbol has one reading in a frame. The block
itself decodes nothing (R54): that symbols are read back, data symbols by their frame, is the model's choice (log 14).
-/
def Obligations.EverySymbolReadIsEncoded : Prop :=
  ∀ (p : Params) (f : Frame) (w : Symbol) (i : Instr), decodeSymbol p f w = .ok i → encode p i = some w ∧ i.wf = true

/-- A symbol the block never emits (R54) is refused by name by the model's decoder. R54 has no illegal-instruction
case, since the block decodes nothing: that the decoder refuses them is the model's choice (log 14). -/
def Obligations.ForeignSymbolsAreRefused : Prop :=
  ∀ (p : Params) (f : Frame) (b : Byte),
    (b ∉ commandBytes p → decodeSymbol p f (Symbol.mk .command b) = .error (.unknownCommand b)) ∧
    (b ∉ literalBytes → decodeSymbol p .literals (Symbol.mk .data b) = .error (.notALiteral b)) ∧
    (b &&& 0xCC ≠ 0 → decodeSymbol p .pixelStream (Symbol.mk .data b) = .error (.notAPackedByte b))

/-- A few words of the table, written out from R47 and R50, decode to what they stand for. The command bytes are the
defaults (log 3); that words are read back, and a data symbol alone by the more specific row, is the model's choice
(log 14). -/
def Obligations.WrittenWordsDecode : Prop :=
  decodeTableWord 16 0b000000001 = some .powerSetting ∧ decodeTableWord 16 0b011100101 = some .flashMode ∧
  decodeTableWord 16 0b000010000 = some .startDataTransmission ∧ decodeTableWord 16 0b000000111 = some .deepSleep ∧
  decodeTableWord 16 0b100110001 = some (.pixelByte .white .blackNoRefresh) ∧
  decodeTableWord 16 0b110100101 = some (.dataByte 0xA5) ∧ decodeTableWord 16 0b011111111 = none

/-- A symbol placed where the sequencer runs it next is run: the step is the instruction's meaning. How a symbol is
placed (log 15) and a word read (log 14) is the model's choice. -/
def Obligations.StepRunsThePlacedSymbol : Prop :=
  ∀ (s : State) (nbits w : Nat) (i : Instr), decodeTableWord nbits w = some i →
    step (s.withFetchWord nbits w) = exec i (s.withFetchWord nbits w)

/-! ### Whole sequences -/

/-- R91: with no failure and no time-out, S07 to S34 put exactly the 26 symbols on the bus, with the wait after the
eleventh. In the event list the command-select drive before the pulse is the spec's own decision D4 (R136; log 25). -/
def Obligations.PowerOnStream : Prop :=
  ∀ s : State, s.pc = .step 7 → s.sessionOpen = false → (∀ j < 27, s.transportAnswerAt j = .ok) →
    s.waitAnswer = .cleared →
    ∃ t es, core.run 28 s = .next t ∧ t.pc = .step 35 ∧ t.sessionOpen = true ∧ t.err = s.err ∧ t.fs = s.fs ∧
      t.fsValid = s.fsValid ∧ t.trace = s.trace ++ es ∧
      es = [.openTransport 0 4000000 .ok] ++ goodTransfers s.params (initBeforeWait s.params) ++
        [.wait 5000 .cleared] ++ goodTransfers s.params (initAfterWait s.params) ∧
      busSymbols s.params s.dc es =
        (initBeforeWait s.params ++ initAfterWait s.params).map (fun w => Symbol.mk w.1 w.2) ∧
      (busSymbols s.params s.dc es).length = 26

/-- R116: with no failure, S40 to S46 put exactly three symbols on the bus, close the transport and drive two lines,
whatever the wait answers. In the event list the reset drive before the command-select drive is the spec's own decision
D13 (R115; log 25), and the order inside a transfer its D4 (R136; log 25). -/
def Obligations.PowerDownStream : Prop :=
  ∀ s : State, s.pc = .step 40 → s.sessionOpen = true → (∀ j < 4, s.transportAnswerAt j = .ok) →
    ∃ t es, core.run 7 s = .next t ∧ t.pc = .step 47 ∧ t.sessionOpen = false ∧ t.err = s.err ∧ t.fs = s.fs ∧
      t.fsValid = s.fsValid ∧ t.rst = some .high ∧ t.dc = some .high ∧ t.trace = s.trace ++ es ∧
      es = List.flatten
        [goodTransfers s.params [(.command, 0x02)], [.wait 5000 s.waitAnswer],
         if s.waitAnswer = .timedOut then [.log .warning .powerOffTimeout] else [],
         goodTransfers s.params [(.command, 0x07), (.data, 0xA5)],
         [.closeTransport .ok, .line .rst .high, .line .dc .high]] ∧
      busSymbols s.params s.dc es = [0b000000010, 0b000000111, 0b110100101]

/-- The two idle drives are no transitions with the default line levels, when the command-select line is at the data
level, as after `DATA 0xA5` (R115, R131). Their order in the event list is the spec's own decision D13 (log 25). -/
def Obligations.IdleDrivesAreQuietByDefault : Prop :=
  ∀ s : State, s.LineInv → s.pc = .step 45 → s.params.rstActiveLevel = .high → s.params.dcCommandLevel = .low →
    s.dc = some (dcFor s.params .data) →
    ∃ t es, core.run 2 s = .next t ∧ t.pc = .step 47 ∧ t.trace = s.trace ++ es ∧
      es = [.line .rst .high, .line .dc .high] ∧ observable s.rst s.dc s.cs es = [] ∧
      t.rst = s.rst ∧ t.dc = s.dc

/-- A failed OPEN: the two idle lines and the return, no byte and no wait (R72, R110). That only the two lines are
driven is the spec's own decision D10 (log 22), and their order in the event list its D13 (R115; log 25). -/
def Obligations.OpenFailureDrivesTheIdleLinesOnly : Prop :=
  ∀ s : State, s.Inv → s.pc = .step 7 → s.transportAnswer = .fail →
    ∃ t, core.run 4 s = .next t ∧ t.pc = .idle ∧ t.fs = s.fs ∧ t.fsValid = s.fsValid ∧ t.sessionOpen = false ∧
      t.cs = s.cs ∧
      t.trace = s.trace ++ [.openTransport 0 4000000 .fail, .line .rst .high, .line .dc .high,
        .ret (.err .transportFailure)]

/-- R70: every update ends, whatever the environment answers, within `NB + 48` steps of its acceptance. It rests on
calls that return (log 30) and on no reset in the middle (log 29). The bound counts one step for each byte, the
model's granularity (log 13). -/
def Obligations.EveryUpdateEnds : Prop :=
  ∀ s : State, s.Inv → s.pc ≠ .idle →
    ∃ k t, k ≤ Config.NB + 48 ∧ core.run k s = .next t ∧ t.pc = .idle ∧ t.Inv ∧
      ∃ es, t.trace = s.trace ++ es ++ [.ret (match t.err with | none => .ok | some e => .err e)]

/-- R110: once a session was opened, the full power-down command sequence goes out and the transport is closed,
whatever fails: `0x02`, `0x07`, `0xA5` are the last bytes handed to the transport, and S45 is reached with no session
open. That power-down goes on whatever fails in it is the spec's own decision D11 (log 23). The bound counts one step
for each byte, the model's granularity (log 13). -/
def Obligations.PowerDownRunsOnEveryPath : Prop :=
  ∀ (s : State) (n : Fin 48), s.Inv → s.pc = .step n → 8 ≤ n.val → n.val ≤ 40 →
    ∃ k t es bs r, k ≤ Config.NB + 48 ∧ core.run k s = .next t ∧ t.pc = .step 45 ∧ t.sessionOpen = false ∧
      t.trace = s.trace ++ es ++ [.closeTransport r] ∧ writtenBytes es = bs ++ [0x02, 0x07, 0xA5]

/-- R159: from the end of the length check on, an update returns either with the bitmap committed as the Frame State,
or with an error and the Frame State as it was. That a failed OPEN goes to PDL is the spec's own D10 (log 22), that
the error returned is the first one its D9 (log 21), that power-down goes on after a failure its D11 (log 23), and
that COMMIT copies the bits its D21 (log 28); the bound counts one step for each byte, the model's granularity (log
13). -/
def Obligations.UpdateReturnsOldOrNewFrame : Prop :=
  ∀ (s : State) (n : Fin 48), s.Inv → s.pc = .step n → 1 ≤ n.val → n.val ≤ 39 →
    ∃ k t, k ≤ Config.NB + 48 ∧ core.run k s = .next t ∧ t.pc = .idle ∧
      ((t.fs = s.bm ∧ t.fsValid = true ∧ t.err ≠ some .initTimeout) ∨
       (t.fs = s.fs ∧ t.fsValid = s.fsValid ∧ (t.err = some .initTimeout ∨ t.err = some .transportFailure)))

/-- The whole update with no failure and no time-out (R67, R72, vectors V1 and T6): its events, its bus symbols, its
counts, the committed frame and the result `Ok`. The order of the drives inside a transfer and of the two idle drives
is the spec's own, D4 and D13 (log 25). Delays as events are its D6 (log 26) and the copy of the bitmap its D21 (log
28); one step for each byte (log 13) and the list of requests (log 7) are the model's choices (DESIGN CHOICE). -/
def Obligations.FavourableUpdate : Prop :=
  ∀ (s : State) (bm : Memory) (rest : List Memory), s.Inv → s.pc = .idle → s.requests = bm :: rest →
    bm.length = Config.N → (∀ j < 122913, s.transportAnswerAt j = .ok) → (∀ j < 3, s.waitAnswerAt j = .cleared) →
    let a := s.params.rstActiveLevel
    let na := if a = .low then Level.high else Level.low
    let p := s.params
    let stream : List (Select × Byte) := (packedStream s.prevFrame bm).map (fun b => (.data, b))
    ∃ t es, core.run (Config.NB + 48) s = .next t ∧ t.pc = .idle ∧ t.err = none ∧ t.fs = bm ∧ t.fsValid = true ∧
      t.sessionOpen = false ∧ t.rst = some .high ∧ t.dc = some .high ∧ t.cs = some .low ∧ t.requests = rest ∧
      t.trace = s.trace ++ es ∧
      es = List.flatten
        [[.line .rst a, .delay 200, .line .rst na, .delay 10, .line .rst a, .delay 200, .openTransport 0 4000000 .ok],
         goodTransfers p (initBeforeWait p), [.wait 5000 .cleared], goodTransfers p (initAfterWait p),
         goodTransfers p [(.command, 0x10)], goodTransfers p stream, goodTransfers p [(.command, 0x12)],
         [.wait 40000 .cleared], goodTransfers p [(.command, 0x02)], [.wait 5000 .cleared],
         goodTransfers p [(.command, 0x07), (.data, 0xA5)],
         [.closeTransport .ok, .line .rst .high, .line .dc .high, .ret .ok]] ∧
      busSymbols p s.dc es =
        (List.flatten
          [initBeforeWait p, initAfterWait p, [(.command, 0x10)], stream, [(.command, 0x12)], [(.command, 0x02)],
           [(.command, 0x07), (.data, 0xA5)]]).map (fun w => Symbol.mk w.1 w.2) ∧
      es.length = 614569 ∧ (writtenBytes es).length = 122911
end

