-- ==== Sys2Proof/Laws/State.lean ====
section
/-! SUPPORT. One lemma per field per update of the state, so that no proof unfolds a record update. -/

namespace Sys2Proof.Machine

/-! ### emit -/

@[simp] theorem State.emit_params (s : State) (e : Event) : (s.emit e).params = s.params := rfl

@[simp] theorem State.emit_fsValid (s : State) (e : Event) : (s.emit e).fsValid = s.fsValid := rfl

@[simp] theorem State.emit_fs (s : State) (e : Event) : (s.emit e).fs = s.fs := rfl

@[simp] theorem State.emit_sessionOpen (s : State) (e : Event) : (s.emit e).sessionOpen = s.sessionOpen := rfl

@[simp] theorem State.emit_pc (s : State) (e : Event) : (s.emit e).pc = s.pc := rfl

@[simp] theorem State.emit_idx (s : State) (e : Event) : (s.emit e).idx = s.idx := rfl

@[simp] theorem State.emit_err (s : State) (e : Event) : (s.emit e).err = s.err := rfl

@[simp] theorem State.emit_rst (s : State) (e : Event) : (s.emit e).rst = s.rst := rfl

@[simp] theorem State.emit_dc (s : State) (e : Event) : (s.emit e).dc = s.dc := rfl

@[simp] theorem State.emit_cs (s : State) (e : Event) : (s.emit e).cs = s.cs := rfl

@[simp] theorem State.emit_bm (s : State) (e : Event) : (s.emit e).bm = s.bm := rfl

@[simp] theorem State.emit_requests (s : State) (e : Event) : (s.emit e).requests = s.requests := rfl

@[simp] theorem State.emit_trace (s : State) (e : Event) : (s.emit e).trace = s.trace ++ [e] := rfl

@[simp] theorem State.emit_transportAnswers (s : State) (e : Event) : (s.emit e).transportAnswers = s.transportAnswers := rfl

@[simp] theorem State.emit_waitAnswers (s : State) (e : Event) : (s.emit e).waitAnswers = s.waitAnswers := rfl

@[simp] theorem State.emit_transportDraws (s : State) (e : Event) : (s.emit e).transportDraws = s.transportDraws := rfl

@[simp] theorem State.emit_waitDraws (s : State) (e : Event) : (s.emit e).waitDraws = s.waitDraws := rfl

/-! ### storeFrame -/

@[simp] theorem State.storeFrame_params (s : State) (m : Memory) : (s.storeFrame m).params = s.params := rfl

@[simp] theorem State.storeFrame_fsValid (s : State) (m : Memory) : (s.storeFrame m).fsValid = true := rfl

@[simp] theorem State.storeFrame_fs (s : State) (m : Memory) : (s.storeFrame m).fs = m := rfl

@[simp] theorem State.storeFrame_sessionOpen (s : State) (m : Memory) : (s.storeFrame m).sessionOpen = s.sessionOpen := rfl

@[simp] theorem State.storeFrame_pc (s : State) (m : Memory) : (s.storeFrame m).pc = s.pc := rfl

@[simp] theorem State.storeFrame_idx (s : State) (m : Memory) : (s.storeFrame m).idx = s.idx := rfl

@[simp] theorem State.storeFrame_err (s : State) (m : Memory) : (s.storeFrame m).err = s.err := rfl

@[simp] theorem State.storeFrame_rst (s : State) (m : Memory) : (s.storeFrame m).rst = s.rst := rfl

@[simp] theorem State.storeFrame_dc (s : State) (m : Memory) : (s.storeFrame m).dc = s.dc := rfl

@[simp] theorem State.storeFrame_cs (s : State) (m : Memory) : (s.storeFrame m).cs = s.cs := rfl

@[simp] theorem State.storeFrame_bm (s : State) (m : Memory) : (s.storeFrame m).bm = s.bm := rfl

@[simp] theorem State.storeFrame_requests (s : State) (m : Memory) : (s.storeFrame m).requests = s.requests := rfl

@[simp] theorem State.storeFrame_trace (s : State) (m : Memory) : (s.storeFrame m).trace = s.trace := rfl

@[simp] theorem State.storeFrame_transportAnswers (s : State) (m : Memory) : (s.storeFrame m).transportAnswers = s.transportAnswers := rfl

@[simp] theorem State.storeFrame_waitAnswers (s : State) (m : Memory) : (s.storeFrame m).waitAnswers = s.waitAnswers := rfl

@[simp] theorem State.storeFrame_transportDraws (s : State) (m : Memory) : (s.storeFrame m).transportDraws = s.transportDraws := rfl

@[simp] theorem State.storeFrame_waitDraws (s : State) (m : Memory) : (s.storeFrame m).waitDraws = s.waitDraws := rfl

/-! ### takeTransport -/

@[simp] theorem State.takeTransport_params (s : State) : (s.takeTransport).params = s.params := rfl

@[simp] theorem State.takeTransport_fsValid (s : State) : (s.takeTransport).fsValid = s.fsValid := rfl

@[simp] theorem State.takeTransport_fs (s : State) : (s.takeTransport).fs = s.fs := rfl

@[simp] theorem State.takeTransport_sessionOpen (s : State) : (s.takeTransport).sessionOpen = s.sessionOpen := rfl

@[simp] theorem State.takeTransport_pc (s : State) : (s.takeTransport).pc = s.pc := rfl

@[simp] theorem State.takeTransport_idx (s : State) : (s.takeTransport).idx = s.idx := rfl

@[simp] theorem State.takeTransport_err (s : State) : (s.takeTransport).err = s.err := rfl

@[simp] theorem State.takeTransport_rst (s : State) : (s.takeTransport).rst = s.rst := rfl

@[simp] theorem State.takeTransport_dc (s : State) : (s.takeTransport).dc = s.dc := rfl

@[simp] theorem State.takeTransport_cs (s : State) : (s.takeTransport).cs = s.cs := rfl

@[simp] theorem State.takeTransport_bm (s : State) : (s.takeTransport).bm = s.bm := rfl

@[simp] theorem State.takeTransport_requests (s : State) : (s.takeTransport).requests = s.requests := rfl

@[simp] theorem State.takeTransport_trace (s : State) : (s.takeTransport).trace = s.trace := rfl

@[simp] theorem State.takeTransport_transportAnswers (s : State) : (s.takeTransport).transportAnswers = s.transportAnswers.tail := rfl

@[simp] theorem State.takeTransport_waitAnswers (s : State) : (s.takeTransport).waitAnswers = s.waitAnswers := rfl

@[simp] theorem State.takeTransport_transportDraws (s : State) : (s.takeTransport).transportDraws = s.transportDraws + 1 := rfl

@[simp] theorem State.takeTransport_waitDraws (s : State) : (s.takeTransport).waitDraws = s.waitDraws := rfl

/-! ### takeWait -/

@[simp] theorem State.takeWait_params (s : State) : (s.takeWait).params = s.params := rfl

@[simp] theorem State.takeWait_fsValid (s : State) : (s.takeWait).fsValid = s.fsValid := rfl

@[simp] theorem State.takeWait_fs (s : State) : (s.takeWait).fs = s.fs := rfl

@[simp] theorem State.takeWait_sessionOpen (s : State) : (s.takeWait).sessionOpen = s.sessionOpen := rfl

@[simp] theorem State.takeWait_pc (s : State) : (s.takeWait).pc = s.pc := rfl

@[simp] theorem State.takeWait_idx (s : State) : (s.takeWait).idx = s.idx := rfl

@[simp] theorem State.takeWait_err (s : State) : (s.takeWait).err = s.err := rfl

@[simp] theorem State.takeWait_rst (s : State) : (s.takeWait).rst = s.rst := rfl

@[simp] theorem State.takeWait_dc (s : State) : (s.takeWait).dc = s.dc := rfl

@[simp] theorem State.takeWait_cs (s : State) : (s.takeWait).cs = s.cs := rfl

@[simp] theorem State.takeWait_bm (s : State) : (s.takeWait).bm = s.bm := rfl

@[simp] theorem State.takeWait_requests (s : State) : (s.takeWait).requests = s.requests := rfl

@[simp] theorem State.takeWait_trace (s : State) : (s.takeWait).trace = s.trace := rfl

@[simp] theorem State.takeWait_transportAnswers (s : State) : (s.takeWait).transportAnswers = s.transportAnswers := rfl

@[simp] theorem State.takeWait_waitAnswers (s : State) : (s.takeWait).waitAnswers = s.waitAnswers.tail := rfl

@[simp] theorem State.takeWait_transportDraws (s : State) : (s.takeWait).transportDraws = s.transportDraws := rfl

@[simp] theorem State.takeWait_waitDraws (s : State) : (s.takeWait).waitDraws = s.waitDraws + 1 := rfl

/-! ### setSession -/

@[simp] theorem State.setSession_params (s : State) (b : Bool) : (s.setSession b).params = s.params := rfl

@[simp] theorem State.setSession_fsValid (s : State) (b : Bool) : (s.setSession b).fsValid = s.fsValid := rfl

@[simp] theorem State.setSession_fs (s : State) (b : Bool) : (s.setSession b).fs = s.fs := rfl

@[simp] theorem State.setSession_sessionOpen (s : State) (b : Bool) : (s.setSession b).sessionOpen = b := rfl

@[simp] theorem State.setSession_pc (s : State) (b : Bool) : (s.setSession b).pc = s.pc := rfl

@[simp] theorem State.setSession_idx (s : State) (b : Bool) : (s.setSession b).idx = s.idx := rfl

@[simp] theorem State.setSession_err (s : State) (b : Bool) : (s.setSession b).err = s.err := rfl

@[simp] theorem State.setSession_rst (s : State) (b : Bool) : (s.setSession b).rst = s.rst := rfl

@[simp] theorem State.setSession_dc (s : State) (b : Bool) : (s.setSession b).dc = s.dc := rfl

@[simp] theorem State.setSession_cs (s : State) (b : Bool) : (s.setSession b).cs = s.cs := rfl

@[simp] theorem State.setSession_bm (s : State) (b : Bool) : (s.setSession b).bm = s.bm := rfl

@[simp] theorem State.setSession_requests (s : State) (b : Bool) : (s.setSession b).requests = s.requests := rfl

@[simp] theorem State.setSession_trace (s : State) (b : Bool) : (s.setSession b).trace = s.trace := rfl

@[simp] theorem State.setSession_transportAnswers (s : State) (b : Bool) : (s.setSession b).transportAnswers = s.transportAnswers := rfl

@[simp] theorem State.setSession_waitAnswers (s : State) (b : Bool) : (s.setSession b).waitAnswers = s.waitAnswers := rfl

@[simp] theorem State.setSession_transportDraws (s : State) (b : Bool) : (s.setSession b).transportDraws = s.transportDraws := rfl

@[simp] theorem State.setSession_waitDraws (s : State) (b : Bool) : (s.setSession b).waitDraws = s.waitDraws := rfl

/-! ### latch -/

@[simp] theorem State.latch_params (s : State) (e : ErrorKind) : (s.latch e).params = s.params := rfl

@[simp] theorem State.latch_fsValid (s : State) (e : ErrorKind) : (s.latch e).fsValid = s.fsValid := rfl

@[simp] theorem State.latch_fs (s : State) (e : ErrorKind) : (s.latch e).fs = s.fs := rfl

@[simp] theorem State.latch_sessionOpen (s : State) (e : ErrorKind) : (s.latch e).sessionOpen = s.sessionOpen := rfl

@[simp] theorem State.latch_pc (s : State) (e : ErrorKind) : (s.latch e).pc = s.pc := rfl

@[simp] theorem State.latch_idx (s : State) (e : ErrorKind) : (s.latch e).idx = s.idx := rfl

@[simp] theorem State.latch_err (s : State) (e : ErrorKind) : (s.latch e).err = (match s.err with | none => some e | some e' => some e') := rfl

@[simp] theorem State.latch_rst (s : State) (e : ErrorKind) : (s.latch e).rst = s.rst := rfl

@[simp] theorem State.latch_dc (s : State) (e : ErrorKind) : (s.latch e).dc = s.dc := rfl

@[simp] theorem State.latch_cs (s : State) (e : ErrorKind) : (s.latch e).cs = s.cs := rfl

@[simp] theorem State.latch_bm (s : State) (e : ErrorKind) : (s.latch e).bm = s.bm := rfl

@[simp] theorem State.latch_requests (s : State) (e : ErrorKind) : (s.latch e).requests = s.requests := rfl

@[simp] theorem State.latch_trace (s : State) (e : ErrorKind) : (s.latch e).trace = s.trace := rfl

@[simp] theorem State.latch_transportAnswers (s : State) (e : ErrorKind) : (s.latch e).transportAnswers = s.transportAnswers := rfl

@[simp] theorem State.latch_waitAnswers (s : State) (e : ErrorKind) : (s.latch e).waitAnswers = s.waitAnswers := rfl

@[simp] theorem State.latch_transportDraws (s : State) (e : ErrorKind) : (s.latch e).transportDraws = s.transportDraws := rfl

@[simp] theorem State.latch_waitDraws (s : State) (e : ErrorKind) : (s.latch e).waitDraws = s.waitDraws := rfl

/-! ### goto -/

@[simp] theorem State.goto_params (s : State) (p : Pc) : (s.goto p).params = s.params := rfl

@[simp] theorem State.goto_fsValid (s : State) (p : Pc) : (s.goto p).fsValid = s.fsValid := rfl

@[simp] theorem State.goto_fs (s : State) (p : Pc) : (s.goto p).fs = s.fs := rfl

@[simp] theorem State.goto_sessionOpen (s : State) (p : Pc) : (s.goto p).sessionOpen = s.sessionOpen := rfl

@[simp] theorem State.goto_pc (s : State) (p : Pc) : (s.goto p).pc = p := rfl

@[simp] theorem State.goto_idx (s : State) (p : Pc) : (s.goto p).idx = (if p = .step 36 then 0 else s.idx) := rfl

@[simp] theorem State.goto_err (s : State) (p : Pc) : (s.goto p).err = s.err := rfl

@[simp] theorem State.goto_rst (s : State) (p : Pc) : (s.goto p).rst = s.rst := rfl

@[simp] theorem State.goto_dc (s : State) (p : Pc) : (s.goto p).dc = s.dc := rfl

@[simp] theorem State.goto_cs (s : State) (p : Pc) : (s.goto p).cs = s.cs := rfl

@[simp] theorem State.goto_bm (s : State) (p : Pc) : (s.goto p).bm = s.bm := rfl

@[simp] theorem State.goto_requests (s : State) (p : Pc) : (s.goto p).requests = s.requests := rfl

@[simp] theorem State.goto_trace (s : State) (p : Pc) : (s.goto p).trace = s.trace := rfl

@[simp] theorem State.goto_transportAnswers (s : State) (p : Pc) : (s.goto p).transportAnswers = s.transportAnswers := rfl

@[simp] theorem State.goto_waitAnswers (s : State) (p : Pc) : (s.goto p).waitAnswers = s.waitAnswers := rfl

@[simp] theorem State.goto_transportDraws (s : State) (p : Pc) : (s.goto p).transportDraws = s.transportDraws := rfl

@[simp] theorem State.goto_waitDraws (s : State) (p : Pc) : (s.goto p).waitDraws = s.waitDraws := rfl

/-! ### advance -/

@[simp] theorem State.advance_params (s : State) : (s.advance).params = s.params := rfl

@[simp] theorem State.advance_fsValid (s : State) : (s.advance).fsValid = s.fsValid := rfl

@[simp] theorem State.advance_fs (s : State) : (s.advance).fs = s.fs := rfl

@[simp] theorem State.advance_sessionOpen (s : State) : (s.advance).sessionOpen = s.sessionOpen := rfl

@[simp] theorem State.advance_pc (s : State) : (s.advance).pc = s.pc.next := rfl

@[simp] theorem State.advance_idx (s : State) : (s.advance).idx = (if s.pc.next = .step 36 then 0 else s.idx) := rfl

@[simp] theorem State.advance_err (s : State) : (s.advance).err = s.err := rfl

@[simp] theorem State.advance_rst (s : State) : (s.advance).rst = s.rst := rfl

@[simp] theorem State.advance_dc (s : State) : (s.advance).dc = s.dc := rfl

@[simp] theorem State.advance_cs (s : State) : (s.advance).cs = s.cs := rfl

@[simp] theorem State.advance_bm (s : State) : (s.advance).bm = s.bm := rfl

@[simp] theorem State.advance_requests (s : State) : (s.advance).requests = s.requests := rfl

@[simp] theorem State.advance_trace (s : State) : (s.advance).trace = s.trace := rfl

@[simp] theorem State.advance_transportAnswers (s : State) : (s.advance).transportAnswers = s.transportAnswers := rfl

@[simp] theorem State.advance_waitAnswers (s : State) : (s.advance).waitAnswers = s.waitAnswers := rfl

@[simp] theorem State.advance_transportDraws (s : State) : (s.advance).transportDraws = s.transportDraws := rfl

@[simp] theorem State.advance_waitDraws (s : State) : (s.advance).waitDraws = s.waitDraws := rfl

/-! ### setLine -/

@[simp] theorem State.setLine_params (s : State) (l : Line) (v : Level) : (s.setLine l v).params = s.params := by
  cases l <;> rfl

@[simp] theorem State.setLine_fsValid (s : State) (l : Line) (v : Level) : (s.setLine l v).fsValid = s.fsValid := by
  cases l <;> rfl

@[simp] theorem State.setLine_fs (s : State) (l : Line) (v : Level) : (s.setLine l v).fs = s.fs := by
  cases l <;> rfl

@[simp] theorem State.setLine_sessionOpen (s : State) (l : Line) (v : Level) : (s.setLine l v).sessionOpen = s.sessionOpen := by
  cases l <;> rfl

@[simp] theorem State.setLine_pc (s : State) (l : Line) (v : Level) : (s.setLine l v).pc = s.pc := by
  cases l <;> rfl

@[simp] theorem State.setLine_idx (s : State) (l : Line) (v : Level) : (s.setLine l v).idx = s.idx := by
  cases l <;> rfl

@[simp] theorem State.setLine_err (s : State) (l : Line) (v : Level) : (s.setLine l v).err = s.err := by
  cases l <;> rfl

@[simp] theorem State.setLine_rst (s : State) (l : Line) (v : Level) :
    (s.setLine l v).rst = if l = .rst then some v else s.rst := by cases l <;> rfl

@[simp] theorem State.setLine_dc (s : State) (l : Line) (v : Level) :
    (s.setLine l v).dc = if l = .dc then some v else s.dc := by cases l <;> rfl

@[simp] theorem State.setLine_cs (s : State) (l : Line) (v : Level) :
    (s.setLine l v).cs = if l = .cs then some v else s.cs := by cases l <;> rfl

@[simp] theorem State.setLine_bm (s : State) (l : Line) (v : Level) : (s.setLine l v).bm = s.bm := by
  cases l <;> rfl

@[simp] theorem State.setLine_requests (s : State) (l : Line) (v : Level) : (s.setLine l v).requests = s.requests := by
  cases l <;> rfl

@[simp] theorem State.setLine_trace (s : State) (l : Line) (v : Level) : (s.setLine l v).trace = s.trace := by
  cases l <;> rfl

@[simp] theorem State.setLine_transportAnswers (s : State) (l : Line) (v : Level) : (s.setLine l v).transportAnswers = s.transportAnswers := by
  cases l <;> rfl

@[simp] theorem State.setLine_waitAnswers (s : State) (l : Line) (v : Level) : (s.setLine l v).waitAnswers = s.waitAnswers := by
  cases l <;> rfl

@[simp] theorem State.setLine_transportDraws (s : State) (l : Line) (v : Level) : (s.setLine l v).transportDraws = s.transportDraws := by
  cases l <;> rfl

@[simp] theorem State.setLine_waitDraws (s : State) (l : Line) (v : Level) : (s.setLine l v).waitDraws = s.waitDraws := by
  cases l <;> rfl

/-! ### drive -/

@[simp] theorem State.drive_params (s : State) (l : Line) (v : Level) : (s.drive l v).params = s.params := by
  cases l <;> rfl

@[simp] theorem State.drive_fsValid (s : State) (l : Line) (v : Level) : (s.drive l v).fsValid = s.fsValid := by
  cases l <;> rfl

@[simp] theorem State.drive_fs (s : State) (l : Line) (v : Level) : (s.drive l v).fs = s.fs := by
  cases l <;> rfl

@[simp] theorem State.drive_sessionOpen (s : State) (l : Line) (v : Level) : (s.drive l v).sessionOpen = s.sessionOpen := by
  cases l <;> rfl

@[simp] theorem State.drive_pc (s : State) (l : Line) (v : Level) : (s.drive l v).pc = s.pc := by
  cases l <;> rfl

@[simp] theorem State.drive_idx (s : State) (l : Line) (v : Level) : (s.drive l v).idx = s.idx := by
  cases l <;> rfl

@[simp] theorem State.drive_err (s : State) (l : Line) (v : Level) : (s.drive l v).err = s.err := by
  cases l <;> rfl

@[simp] theorem State.drive_rst (s : State) (l : Line) (v : Level) :
    (s.drive l v).rst = if l = .rst then some v else s.rst := by cases l <;> rfl

@[simp] theorem State.drive_dc (s : State) (l : Line) (v : Level) :
    (s.drive l v).dc = if l = .dc then some v else s.dc := by cases l <;> rfl

@[simp] theorem State.drive_cs (s : State) (l : Line) (v : Level) :
    (s.drive l v).cs = if l = .cs then some v else s.cs := by cases l <;> rfl

@[simp] theorem State.drive_bm (s : State) (l : Line) (v : Level) : (s.drive l v).bm = s.bm := by
  cases l <;> rfl

@[simp] theorem State.drive_requests (s : State) (l : Line) (v : Level) : (s.drive l v).requests = s.requests := by
  cases l <;> rfl

@[simp] theorem State.drive_trace (s : State) (l : Line) (v : Level) :
    (s.drive l v).trace = s.trace ++ [.line l v] := by cases l <;> rfl

@[simp] theorem State.drive_transportAnswers (s : State) (l : Line) (v : Level) : (s.drive l v).transportAnswers = s.transportAnswers := by
  cases l <;> rfl

@[simp] theorem State.drive_waitAnswers (s : State) (l : Line) (v : Level) : (s.drive l v).waitAnswers = s.waitAnswers := by
  cases l <;> rfl

@[simp] theorem State.drive_transportDraws (s : State) (l : Line) (v : Level) : (s.drive l v).transportDraws = s.transportDraws := by
  cases l <;> rfl

@[simp] theorem State.drive_waitDraws (s : State) (l : Line) (v : Level) : (s.drive l v).waitDraws = s.waitDraws := by
  cases l <;> rfl

/-! ### signal and settle: the fields they leave alone -/

@[simp] theorem State.signal_params (s : State) (e : ErrorKind) : (s.signal e).params = s.params := by
  unfold State.signal; split <;> (try split) <;> rfl

@[simp] theorem State.signal_fsValid (s : State) (e : ErrorKind) : (s.signal e).fsValid = s.fsValid := by
  unfold State.signal; split <;> (try split) <;> rfl

@[simp] theorem State.signal_fs (s : State) (e : ErrorKind) : (s.signal e).fs = s.fs := by
  unfold State.signal; split <;> (try split) <;> rfl

@[simp] theorem State.signal_sessionOpen (s : State) (e : ErrorKind) : (s.signal e).sessionOpen = s.sessionOpen := by
  unfold State.signal; split <;> (try split) <;> rfl

@[simp] theorem State.signal_rst (s : State) (e : ErrorKind) : (s.signal e).rst = s.rst := by
  unfold State.signal; split <;> (try split) <;> rfl

@[simp] theorem State.signal_dc (s : State) (e : ErrorKind) : (s.signal e).dc = s.dc := by
  unfold State.signal; split <;> (try split) <;> rfl

@[simp] theorem State.signal_cs (s : State) (e : ErrorKind) : (s.signal e).cs = s.cs := by
  unfold State.signal; split <;> (try split) <;> rfl

@[simp] theorem State.signal_bm (s : State) (e : ErrorKind) : (s.signal e).bm = s.bm := by
  unfold State.signal; split <;> (try split) <;> rfl

@[simp] theorem State.signal_requests (s : State) (e : ErrorKind) : (s.signal e).requests = s.requests := by
  unfold State.signal; split <;> (try split) <;> rfl

@[simp] theorem State.signal_trace (s : State) (e : ErrorKind) : (s.signal e).trace = s.trace := by
  unfold State.signal; split <;> (try split) <;> rfl

@[simp] theorem State.signal_transportAnswers (s : State) (e : ErrorKind) : (s.signal e).transportAnswers = s.transportAnswers := by
  unfold State.signal; split <;> (try split) <;> rfl

@[simp] theorem State.signal_waitAnswers (s : State) (e : ErrorKind) : (s.signal e).waitAnswers = s.waitAnswers := by
  unfold State.signal; split <;> (try split) <;> rfl

@[simp] theorem State.signal_transportDraws (s : State) (e : ErrorKind) : (s.signal e).transportDraws = s.transportDraws := by
  unfold State.signal; split <;> (try split) <;> rfl

@[simp] theorem State.signal_waitDraws (s : State) (e : ErrorKind) : (s.signal e).waitDraws = s.waitDraws := by
  unfold State.signal; split <;> (try split) <;> rfl

@[simp] theorem State.settle_params (s : State) (r : TransportOutcome) : (s.settle r).params = s.params := by
  cases r <;> simp [State.settle]

@[simp] theorem State.settle_fsValid (s : State) (r : TransportOutcome) : (s.settle r).fsValid = s.fsValid := by
  cases r <;> simp [State.settle]

@[simp] theorem State.settle_fs (s : State) (r : TransportOutcome) : (s.settle r).fs = s.fs := by
  cases r <;> simp [State.settle]

@[simp] theorem State.settle_sessionOpen (s : State) (r : TransportOutcome) : (s.settle r).sessionOpen = s.sessionOpen := by
  cases r <;> simp [State.settle]

@[simp] theorem State.settle_rst (s : State) (r : TransportOutcome) : (s.settle r).rst = s.rst := by
  cases r <;> simp [State.settle]

@[simp] theorem State.settle_dc (s : State) (r : TransportOutcome) : (s.settle r).dc = s.dc := by
  cases r <;> simp [State.settle]

@[simp] theorem State.settle_cs (s : State) (r : TransportOutcome) : (s.settle r).cs = s.cs := by
  cases r <;> simp [State.settle]

@[simp] theorem State.settle_bm (s : State) (r : TransportOutcome) : (s.settle r).bm = s.bm := by
  cases r <;> simp [State.settle]

@[simp] theorem State.settle_requests (s : State) (r : TransportOutcome) : (s.settle r).requests = s.requests := by
  cases r <;> simp [State.settle]

@[simp] theorem State.settle_trace (s : State) (r : TransportOutcome) : (s.settle r).trace = s.trace := by
  cases r <;> simp [State.settle]

@[simp] theorem State.settle_transportAnswers (s : State) (r : TransportOutcome) : (s.settle r).transportAnswers = s.transportAnswers := by
  cases r <;> simp [State.settle]

@[simp] theorem State.settle_waitAnswers (s : State) (r : TransportOutcome) : (s.settle r).waitAnswers = s.waitAnswers := by
  cases r <;> simp [State.settle]

@[simp] theorem State.settle_transportDraws (s : State) (r : TransportOutcome) : (s.settle r).transportDraws = s.transportDraws := by
  cases r <;> simp [State.settle]

@[simp] theorem State.settle_waitDraws (s : State) (r : TransportOutcome) : (s.settle r).waitDraws = s.waitDraws := by
  cases r <;> simp [State.settle]

end Sys2Proof.Machine
end

