-- ==== Sys2Proof/Laws/Memory.lean ====
section
/-!
SUPPORT. The stores: a read inside a written store succeeds, a read outside it gives nothing, and every operation that
writes the Frame State keeps the canonical form `Memory.wf`, which the store after reset has.
-/

namespace Sys2Proof.Machine

/-- The store after reset has its `N` cells. -/
theorem Memory.blank_wf : Memory.blank.wf := by
  rw [Memory.blank, Memory.wf, List.length_replicate]

/-- Every cell of it is white. -/
theorem Memory.blank_read {i : Nat} (h : i < Config.N) : Memory.blank.read i = some false := by
  rw [Memory.blank, Memory.read, List.getElem?_replicate, if_pos h]

theorem reset_fs_wf : State.reset.fs.wf := Memory.blank_wf

/-- A read of a written cell. -/
theorem Memory.read_lt {m : Memory} {i : Nat} (h : i < m.length) : m.read i = some m[i] := by
  simp [Memory.read, h]

/-- A read outside the written cells. -/
theorem Memory.read_ge {m : Memory} {i : Nat} (h : m.length ≤ i) : m.read i = none := by
  simp [Memory.read, h]

/-- Every cell of a store in canonical form reads. -/
theorem Memory.read_of_wf {m : Memory} (h : m.wf) {i : Nat} (hi : i < Config.N) : ∃ v, m.read i = some v := by
  have h' : m.length = 245760 := h
  exact ⟨_, Memory.read_lt (by omega)⟩

/-- R22 follows from the canonical form. -/
theorem State.frameInv_of_wf {s : State} (h : s.fs.wf) : s.FrameInv := fun _ => h

/-- What the commit store leaves reads as the bitmap reads, at every index. -/
theorem State.storeFrame_read (s : State) (m : Memory) (i : Nat) : (s.storeFrame m).fs.read i = m.read i := rfl

theorem State.storeFrame_wf (s : State) {m : Memory} (h : m.wf) : (s.storeFrame m).fs.wf := h

theorem State.emit_wf {s : State} (h : s.fs.wf) (e : Event) : (s.emit e).fs.wf := h

theorem State.drive_wf {s : State} (h : s.fs.wf) (l : Line) (v : Level) : (s.drive l v).fs.wf := by
  rw [State.drive_fs]; exact h

theorem State.goto_wf {s : State} (h : s.fs.wf) (p : Pc) : (s.goto p).fs.wf := h

theorem State.advance_wf {s : State} (h : s.fs.wf) : s.advance.fs.wf := h

theorem State.takeTransport_wf {s : State} (h : s.fs.wf) : s.takeTransport.fs.wf := h

theorem State.takeWait_wf {s : State} (h : s.fs.wf) : s.takeWait.fs.wf := h

theorem State.setSession_wf {s : State} (h : s.fs.wf) (b : Bool) : (s.setSession b).fs.wf := h

theorem State.latch_wf {s : State} (h : s.fs.wf) (e : ErrorKind) : (s.latch e).fs.wf := h

theorem State.signal_wf {s : State} (h : s.fs.wf) (e : ErrorKind) : (s.signal e).fs.wf := by
  rw [State.signal_fs]; exact h

theorem State.settle_wf {s : State} (h : s.fs.wf) (r : TransportOutcome) : (s.settle r).fs.wf := by
  rw [State.settle_fs]; exact h

/-- The store made for placing a pixel byte has its `N` cells. -/
theorem pairMemory_wf (x y : Bool) : (pairMemory x y).wf := by
  simp only [pairMemory, Memory.wf, List.length_cons, List.length_replicate]
  decide

/-- Placing a symbol keeps the canonical form. -/
theorem State.place_wf {s : State} (h : s.fs.wf) (i : Instr) : (s.place i).fs.wf := by
  unfold State.place
  split
  · exact pairMemory_wf _ _
  · split
    · exact h
    · split <;> exact h

end Sys2Proof.Machine
end

