-- ==== Sys2Proof/Laws/Ops.lean ====
section
/-!
SUPPORT. One lemma per shared operation: what it does, as one equation of states, to be cited instead of unfolding it.
-/

namespace Sys2Proof.Machine

theorem Pc.next_step {n m : Fin 48} (h : m.val = n.val + 1) : (Pc.step n).next = .step m := by
  have hm : n.val + 1 < 48 := h ▸ m.isLt
  have : m = ⟨n.val + 1, hm⟩ := Fin.ext h
  simp [Pc.next, hm, this]

/-- The step ends and the next one begins. -/
theorem State.advance_eq {s : State} {n m : Fin 48} (hp : s.pc = .step n) (h : m.val = n.val + 1) :
    s.advance = s.toStep m := by
  simp [State.advance, State.goto, State.toStep, hp, Pc.next_step h]

/-- What latching does to `err`. -/
theorem State.latch_eq (s : State) (e : ErrorKind) : s.latch e = s.withError e := by
  unfold State.latch State.withError; cases s.err <;> rfl

/-- A step form inside an update. -/
theorem State.duringUpdate_step {s : State} {n : Fin 48} (hp : s.pc = .step n) (a : Answer) :
    s.duringUpdate a = a := by
  simp [State.duringUpdate, hp]

/-- An error outside the power-down sequence, at a step other than S07: `PD`. -/
theorem State.signal_raise {s : State} {n : Fin 48} (hp : s.pc = .step n) (h : n.val < 40) (h7 : n ≠ 7)
    (e : ErrorKind) : s.signal e = (s.withError e).toStep 40 := by
  simp [State.signal, hp, h, raiseTarget, h7, State.latch_eq, State.goto, State.toStep]

/-- A failed OPEN: `PDL`. -/
theorem State.signal_raise_open {s : State} (hp : s.pc = .step 7) (e : ErrorKind) :
    s.signal e = (s.withError e).toStep 45 := by
  simp [State.signal, hp, raiseTarget, State.latch_eq, State.goto, State.toStep]

/-- An error inside the power-down sequence: the next step. -/
theorem State.signal_latch {s : State} {n m : Fin 48} (hp : s.pc = .step n) (h : 40 ≤ n.val)
    (hm : m.val = n.val + 1) (e : ErrorKind) : s.signal e = (s.withError e).toStep m := by
  have hn : ¬n.val < 40 := by omega
  have hq : (s.withError e).pc = .step n := hp
  simp only [State.signal, hp, hn, if_false, State.latch_eq]
  exact State.advance_eq hq hm

/-- The end of a step that made a transport call. -/
theorem State.settle_eq {s : State} {n m : Fin 48} (hp : s.pc = .step n) (hm : m.val = n.val + 1) (h7 : n ≠ 7)
    (r : TransportOutcome) : s.settle r = s.afterCall r n m := by
  cases r
  · simp [State.settle, State.afterCall, State.advance_eq hp hm]
  · by_cases h : n.val < 40
    · simp [State.settle, State.afterCall, State.signal_raise hp h h7, h]
    · simp [State.settle, State.afterCall, State.signal_latch hp (by omega) hm, h]

theorem selectLevel_eq (p : Params) (k : Select) : selectLevel p k = dcFor p k := by
  cases k <;> cases h : p.dcCommandLevel <;> simp [selectLevel, dcFor, flipLevel, h]

/-- One transfer. -/
theorem State.transfer_eq (s : State) (k : Select) (b : Byte) : s.transfer k b = s.sent k b := by
  cases hs : s.params.csByteSlot <;> cases hr : s.transportAnswer <;>
    simp [State.transfer, State.sent, State.writeByte, State.afterWrite, State.drive, State.setLine, State.emit,
      State.takeTransport, selectLevel_eq, transferEvents, csAfter, drivesBefore, drivesAfter, State.transportAnswer,
      hs] <;>
    simp_all [State.transportAnswer]

/-- One transfer as a step. -/
theorem State.transferStep_eq {s : State} {n m : Fin 48} (hp : s.pc = .step n) (hm : m.val = n.val + 1)
    (h7 : n ≠ 7) (ho : s.sessionOpen = true) (k : Select) (b : Byte) :
    s.transferStep k b = .next ((s.sent k b).afterCall s.transportAnswer n m) := by
  have hq : (s.sent k b).pc = .step n := hp
  simp [State.transferStep, State.duringUpdate_step hp, State.withSession, ho, State.transfer_eq,
    State.settle_eq hq hm h7]

end Sys2Proof.Machine
end

