-- ==== Sys2Proof/Laws/PerInstr.lean ====
section
/-!
SUPPORT. Per instruction: the select bit of its wire symbol (30_encoding.md R45) is 0 for a command symbol and 1 for a
data symbol. A form that has no symbol (R60) says nothing here.
-/

namespace Sys2Proof.Laws.SelectBit

/-- Bit 8 of the symbol is set exactly when the instruction is no command symbol. -/
def Statement (i : Instr) : Prop :=
  ∀ (p : Params) (w : Symbol), encode p i = some w → w.getLsbD 8 = (i.commandByte p).isNone

/-- The select bit of a symbol. -/
theorem mk_bit (k : Select) (b : Byte) : (Symbol.mk k b).getLsbD 8 = (k == .data) := by
  cases k <;> simp only [Symbol.mk, BitVec.getLsbD_append] <;> rfl

/-- A command symbol. -/
theorem of_command {i : Instr} (f : Params → Byte) (h : ∀ p, i.commandByte p = some (f p)) : Statement i := by
  intro p w hw
  simp only [encode, h p, Option.some.injEq] at hw
  rw [← hw, mk_bit, h p]; rfl

/-- A form without a symbol. -/
theorem of_none {i : Instr} (h : ∀ p, encode p i = none) : Statement i := fun p w hw => by simp [h p] at hw

theorem powerSetting : Statement .powerSetting := of_command (·.cmdPowerSetting) fun _ => rfl

theorem panelSetting : Statement .panelSetting := of_command (·.cmdPanelSetting) fun _ => rfl

theorem boosterSoftStart : Statement .boosterSoftStart := of_command (·.cmdBoosterSoftStart) fun _ => rfl

theorem powerOn : Statement .powerOn := of_command (·.cmdPowerOn) fun _ => rfl

theorem pllControl : Statement .pllControl := of_command (·.cmdPllControl) fun _ => rfl

theorem vcomDataInterval : Statement .vcomDataInterval := of_command (·.cmdVcomDataInterval) fun _ => rfl

theorem tcon : Statement .tcon := of_command (·.cmdTcon) fun _ => rfl

theorem resolutionSetting : Statement .resolutionSetting := of_command (·.cmdResolution) fun _ => rfl

theorem powerSetting2 : Statement .powerSetting2 := of_command (·.cmdPowerSetting2) fun _ => rfl

theorem flashMode : Statement .flashMode := of_command (·.cmdFlashMode) fun _ => rfl

theorem startDataTransmission : Statement .startDataTransmission := of_command (fun _ => 0x10) fun _ => rfl

theorem displayRefresh : Statement .displayRefresh := of_command (fun _ => 0x12) fun _ => rfl

theorem powerOff : Statement .powerOff := of_command (fun _ => 0x02) fun _ => rfl

theorem deepSleep : Statement .deepSleep := of_command (fun _ => 0x07) fun _ => rfl

theorem dataByte (d : Byte) : Statement (.dataByte d) := by
  intro p w hw
  simp only [encode, Instr.commandByte, Option.some.injEq] at hw
  rw [← hw, mk_bit]; rfl

theorem pixelByte (a b : PixelCode) : Statement (.pixelByte a b) := by
  intro p w hw
  simp only [encode, Instr.commandByte, Option.some.injEq] at hw
  rw [← hw, mk_bit]; rfl

theorem update (bm : List Bool) : Statement (.update bm) := of_none fun _ => rfl

theorem check (len : Nat) : Statement (.check len) := of_none fun _ => rfl

theorem rstpulse : Statement .rstpulse := of_none fun _ => rfl

theorem line (l : Line) (v : Level) : Statement (.line l v) := of_none fun _ => rfl

theorem delay (ms : Nat) : Statement (.delay ms) := of_none fun _ => rfl

theorem openTransport (mode hz : Nat) : Statement (.openTransport mode hz) := of_none fun _ => rfl

theorem write (b : Byte) : Statement (.write b) := of_none fun _ => rfl

theorem xfer (k : Select) (b : Byte) : Statement (.xfer k b) := of_none fun _ => rfl

theorem cmd (b : Byte) : Statement (.cmd b) := of_none fun _ => rfl

theorem data (b : Byte) : Statement (.data b) := of_none fun _ => rfl

theorem wait (ms : Nat) (policy : WaitPolicy) : Statement (.wait ms policy) := of_none fun _ => rfl

theorem pixels : Statement .pixels := of_none fun _ => rfl

theorem commit : Statement .commit := of_none fun _ => rfl

theorem closeTransport : Statement .closeTransport := of_none fun _ => rfl

theorem log (sev : Severity) (what : LogCondition) : Statement (.log sev what) := of_none fun _ => rfl

theorem ret : Statement .ret := of_none fun _ => rfl

end Sys2Proof.Laws.SelectBit
end

