-- ==== Sys2Proof/Laws/Step.lean ====
section
/-!
SUPPORT. What each step of the list is, and what a step that sends one symbol does; the outcomes still to be drawn.
-/

namespace Sys2Proof.Machine

/-- The entries of the step list by kind: the check, the reset pulse, the open, the steps that send one symbol, the
three waits, the commit, the close, the two idle lines, the return. -/
theorem listing_cases (p : Params) (len : Nat) (n : Fin 48) (h : n ≠ 36) :
    (n = 0 ∧ listing p len n = .check len) ∨
    (1 ≤ n.val ∧ n.val ≤ 5 ∧ ∃ v, listing p len n = .line .rst v ∧ (n.val = 5 → v = p.rstActiveLevel)) ∨
    (2 ≤ n.val ∧ n.val ≤ 6 ∧ n.val ≠ 5 ∧ ∃ ms, listing p len n = .delay ms) ∨
    (n = 7 ∧ listing p len n = .openTransport 0 4000000) ∨
    (8 ≤ n.val ∧ n.val ≤ 43 ∧ n.val ≠ 19 ∧ n.val ≠ 38 ∧ n.val ≠ 39 ∧ n.val ≠ 41 ∧
      ∃ k b, sentSymbol p (listing p len n) = some (k, b)) ∨
    (n = 19 ∧ listing p len n = .wait 5000 (.fatal .initTimeout)) ∨
    (n = 38 ∧ listing p len n = .wait 40000 (.warn .refreshTimeout)) ∨
    (n = 39 ∧ listing p len n = .commit) ∨
    (n = 41 ∧ listing p len n = .wait 5000 (.warn .powerOffTimeout)) ∨
    (n = 44 ∧ listing p len n = .closeTransport) ∨
    (n = 45 ∧ listing p len n = .line .rst .high) ∨
    (n = 46 ∧ listing p len n = .line .dc .high) ∨
    (n = 47 ∧ listing p len n = .ret) := by
  fin_cases n <;> first
    | exact absurd rfl h
    | simp [listing, stepList, stepsOpening, stepsInit, stepsTransmission, stepsPowerDown, sentSymbol]

/-- A step other than S36 runs its entry. -/
theorem step_listing {s : State} {n : Fin 48} (hp : s.pc = .step n) (h : n ≠ 36) :
    step s = exec (listing s.params s.bm.length n) s := by
  simp [step, State.fetch, hp, h]

/-- A form of one transfer is the transfer of its symbol, as a step. -/
theorem exec_sentSymbol {i : Instr} {k : Select} {b : Byte} {s : State} (h : sentSymbol s.params i = some (k, b)) :
    exec i s = s.transferStep k b := by
  cases i <;> simp only [sentSymbol, Option.some.injEq, Prod.mk.injEq, reduceCtorEq] at h <;>
    (obtain ⟨rfl, rfl⟩ := h; rfl)

/-- The outcome drawn next is the outcome at distance 0. -/
theorem State.transportAnswerAt_zero (s : State) : s.transportAnswerAt 0 = s.transportAnswer := by
  cases h : s.transportAnswers <;> simp [State.transportAnswerAt, State.transportAnswer, h]

theorem State.waitAnswerAt_zero (s : State) : s.waitAnswerAt 0 = s.waitAnswer := by
  cases h : s.waitAnswers <;> simp [State.waitAnswerAt, State.waitAnswer, h]

/-- A transfer draws one outcome. -/
theorem State.sent_transportAnswerAt (s : State) (k : Select) (b : Byte) (j : Nat) :
    (s.sent k b).transportAnswerAt j = s.transportAnswerAt (j + 1) := by
  simp [State.transportAnswerAt, State.sent, Nat.add_assoc, Nat.add_comm 1 j]

/-- The byte of a transfer. -/
theorem writtenBytes_transferEvents (p : Params) (k : Select) (b : Byte) (r : TransportOutcome) :
    writtenBytes (transferEvents p k b r) = [b] := by
  cases hs : p.csByteSlot <;> cases r <;>
    simp [writtenBytes, transferEvents, drivesBefore, drivesAfter, hs] <;> rfl

/-- Two runs in a row. -/
theorem run_succ {s t : State} (k : Nat) (h : step s = .next t) : core.run (k + 1) s = core.run k t := by
  have e : core.step s = .next t := h
  simp only [Host.Core.run, e]

end Sys2Proof.Machine
end

