-- ==== Sys2Proof/Tests/Slice0.lean ====
section
/-!
SUPPORT. Tests. Expected results come from the tables and programs of 95_test_vectors.md (named T<n>, P<n>) and from
the words of 30_encoding.md R47 and R50; then, for each statement with hypotheses, a state that meets them.
-/

namespace Sys2Proof.Tests

open Sys2Proof.Machine

/-! ### Well-formed operands -/

theorem test_wf_data_byte : (Instr.dataByte 0xA5).wf = true ∧ (Instr.dataByte 0xFF).wf = false := by decide

theorem test_wf_delay : (Instr.delay 200).wf = true ∧ (Instr.delay 10).wf = true ∧ (Instr.delay 5).wf = false := by
  decide

theorem test_wf_open :
    (Instr.openTransport 0 4000000).wf = true ∧ (Instr.openTransport 1 4000000).wf = false ∧
      (Instr.openTransport 0 8000000).wf = false := by
  decide

theorem test_wf_wait :
    (Instr.wait 5000 (.fatal .initTimeout)).wf = true ∧ (Instr.wait 40000 (.fatal .initTimeout)).wf = false ∧
      (Instr.wait 5000 (.warn .refreshTimeout)).wf = false := by
  decide

theorem test_wf_log :
    (Instr.log .error .invalidDimensions).wf = true ∧ (Instr.log .warning .invalidDimensions).wf = false ∧
      (Instr.log .error .refreshTimeout).wf = false := by
  decide

/-- Every entry of the step list is well formed. -/
theorem test_wf_step_list : (stepList defaultParams Config.N).all Instr.wf = true := by decide

/-! ### Decoding: words written out bit by bit from R47 and R50, with the default command bytes -/

theorem test_decode_power_setting : decodeTableWord 16 0b000000001 = some .powerSetting := by decide

theorem test_decode_panel_setting : decodeTableWord 16 0b000000000 = some .panelSetting := by decide

theorem test_decode_booster_soft_start : decodeTableWord 16 0b000000110 = some .boosterSoftStart := by decide

theorem test_decode_power_on : decodeTableWord 16 0b000000100 = some .powerOn := by decide

theorem test_decode_pll_control : decodeTableWord 16 0b000110000 = some .pllControl := by decide

theorem test_decode_vcom_data_interval : decodeTableWord 16 0b001010000 = some .vcomDataInterval := by decide

theorem test_decode_tcon : decodeTableWord 16 0b001100000 = some .tcon := by decide

theorem test_decode_resolution_setting : decodeTableWord 16 0b001100001 = some .resolutionSetting := by decide

theorem test_decode_power_setting_2 : decodeTableWord 16 0b010000010 = some .powerSetting2 := by decide

theorem test_decode_flash_mode : decodeTableWord 16 0b011100101 = some .flashMode := by decide

theorem test_decode_start_data_transmission :
    decodeTableWord 16 0b000010000 = some .startDataTransmission := by decide

theorem test_decode_display_refresh : decodeTableWord 16 0b000010010 = some .displayRefresh := by decide

theorem test_decode_power_off : decodeTableWord 16 0b000000010 = some .powerOff := by decide

theorem test_decode_deep_sleep : decodeTableWord 16 0b000000111 = some .deepSleep := by decide

theorem test_decode_data_byte : decodeTableWord 16 0b100110111 = some (.dataByte 0x37) := by decide

/-- Even pixel white (11), odd pixel black without refresh (01). -/
theorem test_decode_pixel_byte :
    decodeTableWord 16 0b100110001 = some (.pixelByte .white .blackNoRefresh) := by decide

/-- No command byte 0xFF, no literal 0xFF, no tenth bit, no word of eight bits. -/
theorem test_decode_refuses :
    decodeTableWord 16 0b011111111 = none ∧ decodeTableWord 16 0b111111111 = none ∧
      decodeTableWord 16 0b1000000001 = none ∧ decodeTableWord 8 0b000000001 = none := by
  decide

/-- In the stream after 0x10 a byte is a pixel byte; in another frame the same word is a literal (R46, R48). -/
theorem test_decode_by_frame :
    decodeStream defaultParams .literals [0x010, 0x103, 0x012, 0x007, 0x1A5] =
        .ok [.startDataTransmission, .pixelByte .black .white, .displayRefresh, .deepSleep, .dataByte 0xA5] ∧
      decodeStream defaultParams .literals [0x0E5, 0x103] = .ok [.flashMode, .dataByte 0x03] := by
  decide

/-! ### Small states -/

/-- Right after reset but inside an update, at step `n`, with the outcomes given. -/
def mid (n : Fin 48) (ts : List TransportOutcome) (ws : List WaitOutcome) : State :=
  { State.reset with
    pc := .step n, sessionOpen := decide (8 ≤ n.val ∧ n.val ≤ 44), transportAnswers := ts, waitAnswers := ws }

/-- The events an answer added to an empty trace. -/
def events : Answer → List Event
  | .next t => t.trace
  | .fault _ => []
  | .refused _ => []

/-- The step counter of an answer. -/
def pcOf : Answer → Option Pc
  | .next t => some t.pc
  | .fault _ => none
  | .refused _ => none

/-- The latched error of an answer. -/
def errOf : Answer → Option ErrorKind
  | .next t => t.err
  | .fault _ => none
  | .refused _ => none

def isNext : Answer → Bool
  | .next _ => true
  | .fault _ => false
  | .refused _ => false

/-! ### Tables of 95_test_vectors.md -/

/-- T1. -/
theorem test_code_t1 :
    (code1 true none).bits = 0b00 ∧ (code1 false none).bits = 0b11 ∧ (code1 true (some true)).bits = 0b01 ∧
      (code1 true (some false)).bits = 0b00 ∧ (code1 false (some true)).bits = 0b11 ∧
      (code1 false (some false)).bits = 0b10 := by
  decide

/-- T2 and P8, with no Frame State. -/
theorem test_pack_t2 :
    (List.range 4).map { State.reset with bm := [true, false, false, true, true, true, false, false] }.pack =
      [.ok 0x03, .ok 0x30, .ok 0x00, .ok 0x33] := by
  decide

/-- P8, with a Frame State. -/
theorem test_pack_p8 :
    (List.range 4).map
        { State.reset with
          fsValid := true, fs := [true, false, false, true, true, true, false, false]
          bm := [true, true, false, true, false, true, false, false] }.pack =
      [.ok 0x10, .ok 0x21, .ok 0x31, .ok 0x22] := by
  decide

/-- T4. -/
theorem test_resolution_t4 :
    [highByte widthHalf, lowByte widthHalf, highByte heightHalf, lowByte heightHalf] = [0x02, 0x80, 0x01, 0x80] := by
  decide

/-- T5, default parameters. -/
theorem test_cmd_t5 :
    events (exec (.cmd 0x10) (mid 35 [.ok] [])) =
        [.line .dc .low, .line .cs .low, .write 0x10 .ok, .line .cs .high, .line .cs .low] ∧
      pcOf (exec (.cmd 0x10) (mid 35 [.ok] [])) = some (.step 36) := by
  decide

/-- T5, a data byte whose write fails. -/
theorem test_data_t5 :
    events (exec (.data 0x33) (mid 9 [.fail] [])) = [.line .dc .high, .line .cs .low, .write 0x33 .fail] ∧
      pcOf (exec (.data 0x33) (mid 9 [.fail] [])) = some (.step 40) ∧
      errOf (exec (.data 0x33) (mid 9 [.fail] [])) = some .transportFailure := by
  decide

/-- T5, the slot after the first high. -/
theorem test_xfer_t5 :
    events
        (exec (.xfer .command 0x10)
          { mid 35 [.ok] [] with params := { defaultParams with csByteSlot := .afterHigh } }) =
      [.line .dc .low, .line .cs .low, .line .cs .high, .write 0x10 .ok, .line .cs .low] := by
  decide

/-- T5, the slot after the second low, the command level high. -/
theorem test_xfer_t5_slot :
    events
        (exec (.xfer .command 0x10)
          { mid 35 [.ok] [] with
            params := { defaultParams with csByteSlot := .afterSecondLow, dcCommandLevel := .high } }) =
      [.line .dc .high, .line .cs .low, .line .cs .high, .line .cs .low, .write 0x10 .ok] := by
  decide

theorem test_write : events (exec (.write 0x5A) (mid 8 [.fail] [])) = [.write 0x5A .fail] := by decide

/-- T7: the first and the last frame of the init stream, one step each. -/
theorem test_init_t7 :
    (events (exec .powerSetting (mid 8 [.ok] []))).contains (.write 0x01 .ok) = true ∧
      (events (exec (.dataByte 0x03) (mid 34 [.ok] []))).contains (.write 0x03 .ok) = true ∧
      pcOf (exec (.dataByte 0x03) (mid 34 [.ok] [])) = some (.step 35) := by
  decide

/-- T9. -/
theorem test_reset_pulse_t9 :
    events (exec .rstpulse (mid 1 [] [])) =
        [.line .rst .high, .delay 200, .line .rst .low, .delay 10, .line .rst .high, .delay 200] ∧
      pcOf (exec .rstpulse (mid 1 [] [])) = some (.step 7) := by
  decide

/-- T10, S19. -/
theorem test_wait_s19_t10 :
    pcOf (step (mid 19 [] [.cleared])) = some (.step 20) ∧ pcOf (step (mid 19 [] [.timedOut])) = some (.step 40) ∧
      errOf (step (mid 19 [] [.timedOut])) = some .initTimeout ∧
      events (step (mid 19 [] [.timedOut])) = [.wait 5000 .timedOut] := by
  decide

/-- T10, S38 and S41. -/
theorem test_wait_warnings_t10 :
    events (step (mid 38 [] [.timedOut])) = [.wait 40000 .timedOut, .log .warning .refreshTimeout] ∧
      pcOf (step (mid 38 [] [.timedOut])) = some (.step 39) ∧
      events (step (mid 41 [] [.timedOut])) = [.wait 5000 .timedOut, .log .warning .powerOffTimeout] ∧
      pcOf (step (mid 41 [] [.timedOut])) = some (.step 42) ∧ errOf (step (mid 41 [] [.timedOut])) = none := by
  decide

/-- T11. -/
theorem test_check_t11 :
    errOf (exec (.check 0) (mid 0 [] [])) = some .invalidDimensions ∧
      errOf (exec (.check 245759) (mid 0 [] [])) = some .invalidDimensions ∧
      errOf (exec (.check 245761) (mid 0 [] [])) = some .invalidDimensions ∧
      errOf (exec (.check 122880) (mid 0 [] [])) = some .invalidDimensions ∧
      pcOf (exec (.check 245760) (mid 0 [] [])) = some (.step 1) ∧
      pcOf (exec (.check 0) (mid 0 [] [])) = some (.step 47) := by
  decide

/-- T11: a request of length 0, from reset. -/
theorem test_wrong_length_t11 :
    events (core.run 3 { State.reset with requests := [[]] }) =
      [.log .error .invalidDimensions, .ret (.err .invalidDimensions)] := by
  decide

/-- T12: OPEN, the write of S37, the write of S40, CLOSE. -/
theorem test_failures_t12 :
    pcOf (step (mid 7 [.fail] [])) = some (.step 45) ∧ pcOf (step (mid 37 [.fail] [])) = some (.step 40) ∧
      pcOf (step (mid 40 [.fail] [])) = some (.step 41) ∧ pcOf (step (mid 44 [.fail] [])) = some (.step 45) ∧
      errOf (step (mid 44 [.fail] [])) = some .transportFailure := by
  decide

/-- T12: the init time-out is kept when the write of S40 fails. -/
theorem test_first_error_wins_t12 :
    errOf (step { mid 40 [.fail] [] with err := some .initTimeout }) = some .initTimeout := by
  decide

/-- P7: a failed OPEN on a fresh block. -/
theorem test_open_failure_p7 :
    events (core.run 4 (mid 7 [.fail] [])) =
      [.openTransport 0 4000000 .fail, .line .rst .high, .line .dc .high, .ret (.err .transportFailure)] := by
  decide

/-- T8. -/
theorem test_power_down_t8 :
    events (core.run 7 (mid 40 [.ok, .ok, .ok, .ok] [.cleared])) =
      [.line .dc .low, .line .cs .low, .write 0x02 .ok, .line .cs .high, .line .cs .low, .wait 5000 .cleared,
       .line .dc .low, .line .cs .low, .write 0x07 .ok, .line .cs .high, .line .cs .low,
       .line .dc .high, .line .cs .low, .write 0xA5 .ok, .line .cs .high, .line .cs .low, .closeTransport .ok,
       .line .rst .high, .line .dc .high] := by
  decide

theorem test_line : events (exec (.line .rst .high) (mid 45 [] [])) = [.line .rst .high] := by decide

theorem test_delay : events (exec (.delay 10) (mid 4 [] [])) = [.delay 10] := by decide

theorem test_open :
    events (exec (.openTransport 0 4000000) (mid 7 [.ok] [])) = [.openTransport 0 4000000 .ok] ∧
      pcOf (exec (.openTransport 0 4000000) (mid 7 [.ok] [])) = some (.step 8) := by
  decide

theorem test_log :
    events (exec (.log .warning .refreshTimeout) (mid 38 [] [])) = [.log .warning .refreshTimeout] ∧
      pcOf (exec (.log .warning .refreshTimeout) (mid 38 [] [])) = some (.step 38) := by
  decide

/-- The result of RET (R66). -/
theorem test_ret :
    events (exec .ret { mid 47 [] [] with err := some .initTimeout }) = [.ret (.err .initTimeout)] ∧
      events (exec .ret (mid 47 [] [])) = [.ret .ok] ∧ pcOf (exec .ret (mid 47 [] [])) = some .idle := by
  decide

/-- One pass of the loop of S36 (R102). -/
theorem test_pixel_byte :
    events (exec (.pixelByte .white .blackNoRefresh) (mid 36 [.ok] [])) =
        [.line .dc .high, .line .cs .low, .write 0x31 .ok, .line .cs .high, .line .cs .low] ∧
      pcOf (exec (.pixelByte .white .blackNoRefresh) (mid 36 [.ok] [])) = some (.step 36) := by
  decide

/-- Every symbol placed right after reset is run: the step answers a next state. -/
theorem test_placed_symbols_run :
    ([0x001, 0x000, 0x006, 0x004, 0x030, 0x050, 0x060, 0x061, 0x082, 0x0E5, 0x010, 0x012, 0x002, 0x007, 0x137, 0x100,
      0x133] : List Nat).all (fun w => isNext (step (State.reset.withFetchWord 16 w))) = true := by
  decide

/-- The one run from reset with no request stays in IDLE (R71). -/
theorem test_idle : step State.reset = .next State.reset := by rfl

/-! ### Witnesses: for each statement with hypotheses, states and operands that meet them -/

/-- An all-white bitmap of the right length. -/
def white : Memory := List.replicate Config.N false

theorem white_full : white.wf := by
  rw [white, Memory.wf, List.length_replicate]

/-- `mid`, with a bitmap of the right length in flight. -/
def full (n : Fin 48) (ts : List TransportOutcome) (ws : List WaitOutcome) : State :=
  { mid n ts ws with bm := white }

/-- The invariant holds at every step, whatever the outcomes to come. -/
theorem full_inv (n : Fin 48) (ts : List TransportOutcome) (ws : List WaitOutcome) : (full n ts ws).Inv where
  session := rfl
  error := fun _ _ => rfl
  bitmap := fun _ _ => white_full
  index := fun _ => show 0 < Config.NB by decide
  store := Memory.blank_wf

/-- A committed white frame besides. -/
def committed (n : Fin 48) (ts : List TransportOutcome) : State :=
  { full n ts [] with fsValid := true, fs := white }

theorem committed_inv (n : Fin 48) (ts : List TransportOutcome) : (committed n ts).Inv where
  session := rfl
  error := fun _ _ => rfl
  bitmap := fun _ _ => white_full
  index := fun _ => show 0 < Config.NB by decide
  store := white_full

/-- A commit that runs. -/
theorem full_commit : exec .commit (full 39 [] []) = .next ((full 39 [] []).storeFrame white).advance := by
  rw [exec, execCommit, State.duringUpdate, if_neg (by decide)]
  exact if_pos white_full

theorem answers_ok (s : State) (k : Nat) (h : s.transportAnswers = List.replicate k .ok) :
    ∀ j < k, s.transportAnswerAt j = .ok := by
  intro j hj
  rw [State.transportAnswerAt, h, List.getElem?_replicate, if_pos hj]; rfl

theorem waits_cleared (s : State) (k : Nat) (h : s.waitAnswers = List.replicate k .cleared) :
    ∀ j < k, s.waitAnswerAt j = .cleared := by
  intro j hj
  rw [State.waitAnswerAt, h, List.getElem?_replicate, if_pos hj]; rfl

theorem witness_StepKeepsTheInvariantAndNeverStops :
    (full 0 [] []).Inv ∧ (full 36 [.fail] []).Inv ∧ (full 47 [] []).Inv :=
  ⟨full_inv _ _ _, full_inv _ _ _, full_inv _ _ _⟩

theorem witness_FrameStateLengthIsKept :
    (∃ t, exec (.delay 200) (committed 2 []) = .next t) ∧ ((committed 2 []).fsValid = true → (committed 2 []).fs.wf) ∧
      (∃ t, step (committed 2 []) = .next t) ∧ (committed 2 []).FrameInv ∧
      (committed 2 []).fs.length = Config.N :=
  ⟨⟨_, rfl⟩, fun _ => white_full, ⟨_, rfl⟩, fun _ => white_full, white_full⟩

/-- The session opens at S07, is kept at S08, ends at S44; IDLE. -/
theorem witness_SessionExistsOnlyInsideAnUpdate :
    ((mid 7 [.ok] []).SessionInv ∧ isNext (step (mid 7 [.ok] [])) = true) ∧
      ((mid 8 [.ok] []).SessionInv ∧ isNext (step (mid 8 [.ok] [])) = true) ∧
      ((mid 44 [.fail] []).SessionInv ∧ isNext (step (mid 44 [.fail] [])) = true) ∧
      (State.reset.SessionInv ∧ State.reset.pc = .idle) :=
  ⟨⟨rfl, rfl⟩, ⟨rfl, rfl⟩, ⟨rfl, rfl⟩, rfl, rfl⟩

/-- S05, where the active level is driven last; S45 and S46, the idle drives. -/
theorem witness_LinesDuringAnUpdate :
    ((mid 5 [] []).LineInv ∧ isNext (step (mid 5 [] [])) = true) ∧
      ({ mid 45 [] [] with rst := some .high }.LineInv ∧
        isNext (step { mid 45 [] [] with rst := some .high }) = true) ∧
      ({ mid 46 [] [] with rst := some .high }.LineInv ∧
        isNext (step { mid 46 [] [] with rst := some .high }) = true) := by
  refine ⟨⟨⟨?_, ?_, ?_⟩, rfl⟩, ⟨⟨?_, ?_, ?_⟩, rfl⟩, ⟨⟨?_, ?_, ?_⟩, rfl⟩⟩ <;> decide

theorem witness_SessionWrittenOnlyByOpenAndClose :
    (∃ t, exec (.openTransport 0 4000000) (mid 7 [.ok] []) = .next t ∧ t.sessionOpen ≠ (mid 7 [.ok] []).sessionOpen) ∧
      (∃ t, exec .closeTransport (mid 44 [.fail] []) = .next t ∧
        t.sessionOpen ≠ (mid 44 [.fail] []).sessionOpen) :=
  ⟨⟨_, rfl, by decide⟩, ⟨_, rfl, by decide⟩⟩

theorem witness_FrameStateWrittenOnlyByCommit :
    (∃ t, exec (.delay 200) (mid 2 [] []) = .next t ∧ Instr.delay 200 ≠ .commit) ∧
      (∃ t, exec .commit (full 39 [] []) = .next t) := by
  exact ⟨⟨_, rfl, by decide⟩, _, full_commit⟩

theorem witness_FirstErrorWins :
    (∃ t, exec .powerOff { mid 40 [.fail] [] with err := some .initTimeout } = .next t ∧
      (∀ len, Instr.powerOff ≠ .check len) ∧
      { mid 40 [.fail] [] with err := some .initTimeout }.err = some .initTimeout) ∧
      (∃ t, exec (.check Config.N) (mid 0 [] []) = .next t) ∧ (∃ t, exec .ret (mid 47 [] []) = .next t) :=
  ⟨⟨_, rfl, fun _ h => (nomatch h), rfl⟩, ⟨_, rfl⟩, ⟨_, rfl⟩⟩

theorem witness_ParametersAndBitmapAreFixed :
    ∃ t, exec (.delay 200) (full 2 [] []) = .next t ∧ ∀ bm, Instr.delay 200 ≠ .update bm :=
  ⟨_, rfl, fun _ h => nomatch h⟩

theorem witness_TraceOnlyGrows :
    (∃ t, exec (.delay 200) (mid 2 [] []) = .next t) ∧ (∃ t, step (mid 2 [] []) = .next t) :=
  ⟨⟨_, rfl⟩, ⟨_, rfl⟩⟩

/-- IDLE; a step without a session, a symbol form and a pixel's codes there; a step with one. -/
theorem witness_ExcludedContextsStop :
    (State.reset.pc = .idle ∧ ∀ bm, Instr.ret ≠ .update bm) ∧
      ((full 7 [] []).pc ≠ .idle ∧ (full 7 [] []).sessionOpen = false ∧
        sentSymbol (full 7 [] []).params .powerSetting = some (.command, 0x01) ∧
        sentSymbol (full 7 [] []).params (.dataByte 0xA5) = some (.data, 0xA5) ∧
        (full 7 [] []).codePair 0 = .ok (.white, .white)) ∧
      ((mid 8 [] []).pc ≠ .idle ∧ (mid 8 [] []).sessionOpen = true) :=
  ⟨⟨rfl, fun _ h => nomatch h⟩, ⟨by decide, rfl, rfl, rfl, rfl⟩, by decide, rfl⟩

theorem witness_UpdateAcceptedOnlyInIdle : State.reset.pc = .idle ∧ (mid 0 [] []).pc ≠ .idle := by decide

theorem witness_CheckComparesTheLength : (mid 0 [] []).pc = .step 0 := rfl

theorem witness_WrongLengthTouchesNothing :
    { State.reset with requests := [[], white] }.pc = .idle ∧
      { State.reset with requests := [[], white] }.requests = [] :: [white] ∧ ([] : Memory).length ≠ 245760 ∧
      white.length = 245760 :=
  ⟨rfl, rfl, by decide, white_full⟩

theorem witness_RetReturnsTheResult : (mid 47 [] []).pc = .step 47 := rfl

theorem witness_IdleChangesNothing : State.reset.pc = .idle ∧ State.reset.requests = [] := ⟨rfl, rfl⟩

/-- The first and the last step that can be followed by another. -/
theorem witness_LineDrivesAndHolds :
    ((mid 0 [] []).pc = .step 0 ∧ (1 : Fin 48).val = (0 : Fin 48).val + 1) ∧
      ((mid 46 [] []).pc = .step 46 ∧ (47 : Fin 48).val = (46 : Fin 48).val + 1) := by
  decide

theorem witness_DelayIsAnEvent :
    ((mid 0 [] []).pc = .step 0 ∧ (1 : Fin 48).val = (0 : Fin 48).val + 1) ∧
      ((mid 46 [] []).pc = .step 46 ∧ (47 : Fin 48).val = (46 : Fin 48).val + 1) := by
  decide

theorem witness_ResetPulse : (mid 1 [] []).pc = .step 1 := rfl

theorem witness_OpenOpensOrRaises :
    ((mid 7 [.ok] []).pc = .step 7 ∧ (mid 7 [.ok] []).sessionOpen = false ∧ (mid 7 [.ok] []).transportAnswer = .ok) ∧
      ((mid 7 [.fail] []).pc = .step 7 ∧ (mid 7 [.fail] []).sessionOpen = false ∧
        (mid 7 [.fail] []).transportAnswer = .fail) := by
  decide

theorem witness_WriteHandsOverOneByte : (mid 8 [] []).pc ≠ .idle ∧ (mid 8 [] []).sessionOpen = true := by decide

theorem witness_XferPulsesChipSelect : (mid 44 [] []).pc ≠ .idle ∧ (mid 44 [] []).sessionOpen = true := by decide

/-- The first and the last step of the range, the latter in a state no run reaches; S39 and S40, the last step outside
power-down and the first inside it. -/
theorem witness_CmdAndDataTransferOneSymbol :
    ((mid 8 [] []).pc = .step 8 ∧ (9 : Fin 48).val = (8 : Fin 48).val + 1 ∧ 8 ≤ (8 : Fin 48).val ∧
      (mid 8 [] []).sessionOpen = true) ∧
      ({ mid 46 [] [] with sessionOpen := true }.pc = .step 46 ∧ (47 : Fin 48).val = (46 : Fin 48).val + 1 ∧
        8 ≤ (46 : Fin 48).val ∧ { mid 46 [] [] with sessionOpen := true }.sessionOpen = true) ∧
      ((mid 39 [.fail] []).pc = .step 39 ∧ (40 : Fin 48).val = (39 : Fin 48).val + 1 ∧ 8 ≤ (39 : Fin 48).val ∧
        (mid 39 [.fail] []).sessionOpen = true) ∧
      ((mid 40 [.fail] []).pc = .step 40 ∧ (41 : Fin 48).val = (40 : Fin 48).val + 1 ∧ 8 ≤ (40 : Fin 48).val ∧
        (mid 40 [.fail] []).sessionOpen = true) :=
  ⟨⟨rfl, rfl, by decide, rfl⟩, ⟨rfl, rfl, by decide, rfl⟩, ⟨rfl, rfl, by decide, rfl⟩, rfl, rfl, by decide, rfl⟩

theorem witness_SymbolFormsTransferTheirSymbol :
    sentSymbol (mid 8 [] []).params .powerSetting = some (.command, 0x01) ∧
      sentSymbol (mid 43 [] []).params (.dataByte 0xA5) = some (.data, 0xA5) ∧ (mid 43 [] []).pc = .step 43 ∧
      (44 : Fin 48).val = (43 : Fin 48).val + 1 ∧ 8 ≤ (43 : Fin 48).val ∧ (mid 43 [] []).sessionOpen = true ∧
      ((mid 39 [.fail] []).pc = .step 39 ∧ (40 : Fin 48).val = (39 : Fin 48).val + 1 ∧ 8 ≤ (39 : Fin 48).val ∧
        (mid 39 [.fail] []).sessionOpen = true) ∧
      sentSymbol (mid 40 [.fail] []).params .powerOff = some (.command, 0x02) ∧ (mid 40 [.fail] []).pc = .step 40 ∧
      (41 : Fin 48).val = (40 : Fin 48).val + 1 ∧ 8 ≤ (40 : Fin 48).val ∧ (mid 40 [.fail] []).sessionOpen = true :=
  ⟨rfl, rfl, rfl, rfl, by decide, rfl, ⟨rfl, rfl, by decide, rfl⟩, rfl, rfl, rfl, by decide, rfl⟩

/-- S00 and S06, S07 and S47, with a session, which no run has there. -/
theorem witness_SymbolFormsAtTheOtherSteps :
    sentSymbol (mid 0 [] []).params .powerSetting = some (.command, 0x01) ∧
      { mid 0 [.fail] [] with sessionOpen := true }.sessionOpen = true ∧
      ({ mid 0 [.fail] [] with sessionOpen := true }.pc = .step 0 ∧ (1 : Fin 48).val = (0 : Fin 48).val + 1 ∧
        (0 : Fin 48).val < 7) ∧
      ({ mid 6 [.ok] [] with sessionOpen := true }.pc = .step 6 ∧ (7 : Fin 48).val = (6 : Fin 48).val + 1 ∧
        (6 : Fin 48).val < 7) ∧
      { mid 7 [.fail] [] with sessionOpen := true }.pc = .step 7 ∧
      { mid 47 [.fail] [] with sessionOpen := true }.pc = .step 47 :=
  ⟨rfl, rfl, ⟨rfl, rfl, by decide⟩, ⟨rfl, rfl, by decide⟩, rfl, rfl⟩

theorem witness_CloseEndsTheSession : (mid 44 [.fail] []).pc = .step 44 ∧ (mid 44 [.fail] []).sessionOpen = true := by
  decide

theorem witness_TransferPutsItsSymbolOnTheBus : ∃ t, exec (.xfer .data 0x37) (mid 9 [.fail] []) = .next t := ⟨_, rfl⟩

/-- S19 outside power-down, S41 inside it; S39 and S40, the last step outside and the first inside. -/
theorem witness_WaitFollowsItsPolicy :
    ((mid 19 [] [.timedOut]).pc = .step 19 ∧ (20 : Fin 48).val = (19 : Fin 48).val + 1 ∧ (19 : Fin 48) ≠ 7) ∧
      ((mid 41 [] [.timedOut]).pc = .step 41 ∧ (42 : Fin 48).val = (41 : Fin 48).val + 1 ∧ (41 : Fin 48) ≠ 7) ∧
      ((mid 39 [] [.timedOut]).pc = .step 39 ∧ (40 : Fin 48).val = (39 : Fin 48).val + 1 ∧ (39 : Fin 48) ≠ 7) ∧
      ((mid 40 [] [.timedOut]).pc = .step 40 ∧ (41 : Fin 48).val = (40 : Fin 48).val + 1 ∧ (40 : Fin 48) ≠ 7) :=
  ⟨⟨rfl, rfl, by decide⟩, ⟨rfl, rfl, by decide⟩, ⟨rfl, rfl, by decide⟩, rfl, rfl, by decide⟩

theorem witness_LogIsAnEvent : (mid 38 [] []).pc ≠ .idle := by decide

theorem witness_CodeTable :
    State.reset.fsValid = false ∧ (committed 36 []).fsValid = true ∧ (committed 36 []).fs[0]? = some false :=
  ⟨rfl, rfl, rfl⟩

theorem witness_PackReadsTheStores :
    0 < Config.NB ∧ Config.NB - 1 < Config.NB ∧ (committed 36 []).bm.length = Config.N ∧
      ((committed 36 []).fsValid = true → (committed 36 []).fs.length = Config.N) :=
  ⟨by decide, by decide, white_full, fun _ => white_full⟩

theorem witness_EncoderProperties :
    white.length = Config.N ∧ Config.N - 1 < Config.N ∧ (committed 36 []).bm.length = Config.N ∧
      (committed 36 []).fs.length = Config.N ∧ (committed 36 []).fsValid = true ∧
      (full 36 [] []).bm.length = Config.N ∧ (full 36 [] []).fsValid = false :=
  ⟨white_full, by decide, white_full, white_full, rfl, white_full, rfl⟩

/-- A second update with the bitmap that is the Frame State, before its request is taken, with good outcomes. -/
def secondUpdate : State :=
  { State.reset with
    fsValid := true, fs := white, requests := [white], transportAnswers := List.replicate 28 .ok
    waitAnswers := [.cleared] }

/-- The first and the last byte of S36 after a commit; the block in IDLE with the same bitmap requested again. -/
theorem witness_SecondUpdateIsAllNoRefresh :
    (∃ t, exec .commit (full 39 [] []) = .next t ∧
      ((committed 36 []).fs = t.fs ∧ (committed 36 []).fsValid = t.fsValid ∧
        (committed 36 []).bm = (full 39 [] []).bm ∧ (committed 36 []).pc = .step 36 ∧
        (committed 36 []).idx < Config.NB) ∧
      { committed 36 [] with idx := Config.NB - 1 }.idx < Config.NB) ∧
    0 < Config.N ∧ Config.N - 1 < Config.N ∧
    secondUpdate.Inv ∧ secondUpdate.pc = .idle ∧ secondUpdate.requests = secondUpdate.fs :: [] ∧
      secondUpdate.fsValid = true ∧ (∀ j < 28, secondUpdate.transportAnswerAt j = .ok) ∧
      secondUpdate.waitAnswer = .cleared :=
  ⟨⟨_, full_commit, ⟨rfl, rfl, rfl, rfl, show 0 < Config.NB by decide⟩, show Config.NB - 1 < Config.NB by decide⟩,
    by decide, by decide,
    { session := rfl, error := trivial, bitmap := trivial, index := fun h => Pc.noConfusion h, store := white_full },
    rfl, rfl, rfl, answers_ok _ _ rfl, rfl⟩

theorem witness_PixelByteIsOnePassOfTheLoop :
    (mid 36 [.ok] []).pc = .step 36 ∧ (mid 36 [.ok] []).sessionOpen = true := by
  decide

/-- All writes good; the first bad; the last bad. -/
theorem witness_PixelsSendsTheStream :
    ((committed 36 (List.replicate Config.NB .ok)).pc = .step 36 ∧
      (committed 36 (List.replicate Config.NB .ok)).sessionOpen = true ∧
      (committed 36 (List.replicate Config.NB .ok)).bm.length = Config.N ∧
      ((committed 36 (List.replicate Config.NB .ok)).fsValid = true →
        (committed 36 (List.replicate Config.NB .ok)).fs.length = Config.N) ∧
      ∀ j < Config.NB, (committed 36 (List.replicate Config.NB .ok)).transportAnswerAt j = .ok) ∧
    (0 < Config.NB ∧ (∀ i < 0, (committed 36 [.fail]).transportAnswerAt i = .ok) ∧
      (committed 36 [.fail]).transportAnswerAt 0 = .fail) ∧
    (Config.NB - 1 < Config.NB ∧
      (∀ i < Config.NB - 1,
        (committed 36 (List.replicate (Config.NB - 1) .ok ++ [.fail])).transportAnswerAt i = .ok) ∧
      (committed 36 (List.replicate (Config.NB - 1) .ok ++ [.fail])).transportAnswerAt (Config.NB - 1) = .fail) := by
  refine ⟨⟨rfl, rfl, white_full, fun _ => white_full, answers_ok _ _ rfl⟩,
    ⟨by decide, fun _ h => absurd h (by omega), rfl⟩, by decide, ?_, ?_⟩
  · intro i hi
    rw [State.transportAnswerAt, committed, full, mid, List.getElem?_append_left (by rwa [List.length_replicate]),
      List.getElem?_replicate, if_pos hi]; rfl
  · rw [State.transportAnswerAt, committed, full, mid, List.getElem?_append_right (by rw [List.length_replicate]),
      List.length_replicate, Nat.sub_self]; rfl

theorem witness_StepsAtS36RunPixels :
    (full 36 [.fail] []).pc = .step 36 ∧ (full 36 [.fail] []).idx = 0 ∧
      ∃ t, exec .pixels (full 36 [.fail] []) = .next t :=
  ⟨rfl, rfl, _, rfl⟩

theorem witness_CommitCopiesTheBitmap :
    (full 39 [] []).pc = .step 39 ∧ (40 : Fin 48).val = (39 : Fin 48).val + 1 ∧
      (full 39 [] []).bm.length = Config.N :=
  ⟨rfl, rfl, white_full⟩

/-- The first and the last entry; the first pixel byte; the end of the loop; a request. -/
theorem witness_StepRunsTheListedInstruction :
    ((mid 0 [] []).pc = .step 0 ∧ (0 : Fin 48) ≠ 36 ∧
      (stepList (mid 0 [] []).params (mid 0 [] []).bm.length)[(0 : Fin 48).val]? = some (.check 0)) ∧
    ((mid 47 [] []).pc = .step 47 ∧ (47 : Fin 48) ≠ 36 ∧
      (stepList (mid 47 [] []).params (mid 47 [] []).bm.length)[(47 : Fin 48).val]? = some .ret) ∧
    ((full 36 [] []).pc = .step 36 ∧ (full 36 [] []).idx < Config.NB ∧
      (full 36 [] []).codePair (full 36 [] []).idx = .ok (.white, .white)) ∧
    ({ full 36 [] [] with idx := Config.NB }.pc = .step 36 ∧
      Config.NB ≤ { full 36 [] [] with idx := Config.NB }.idx) ∧
    ({ State.reset with requests := [white] }.pc = .idle ∧
      { State.reset with requests := [white] }.requests = white :: []) :=
  ⟨⟨rfl, by decide, rfl⟩, ⟨rfl, by decide, rfl⟩, ⟨rfl, by decide, rfl⟩, ⟨rfl, le_refl _⟩, rfl, rfl⟩

/-- One state for each clause, at the ends of its range. -/
theorem witness_ControlMovesAsListed :
    (full 0 [] []).Inv ∧ (full 7 [.ok] []).Inv ∧ (full 19 [] [.timedOut]).Inv ∧ (full 36 [.ok] []).Inv ∧
      ((full 8 [.fail] []).Inv ∧ (full 8 [.fail] []).transportAnswer = .fail) ∧
      ((full 37 [.fail] []).Inv ∧ (full 37 [.fail] []).transportAnswer = .fail) ∧
      ((full 8 [.ok] []).Inv ∧ (full 8 [.ok] []).transportAnswer = .ok) ∧
      ((full 37 [.ok] []).Inv ∧ (full 37 [.ok] []).transportAnswer = .ok) ∧ (full 1 [] []).Inv ∧ (full 6 [] []).Inv ∧
      (full 38 [] []).Inv ∧ (full 46 [] []).Inv ∧ (full 47 [] []).Inv :=
  ⟨full_inv _ _ _, full_inv _ _ _, full_inv _ _ _, full_inv _ _ _, ⟨full_inv _ _ _, rfl⟩, ⟨full_inv _ _ _, rfl⟩,
    ⟨full_inv _ _ _, rfl⟩, ⟨full_inv _ _ _, rfl⟩, full_inv _ _ _, full_inv _ _ _, full_inv _ _ _, full_inv _ _ _,
    full_inv _ _ _⟩

/-- A failed OPEN, the init time-out, a write of S36, the write of S37. -/
theorem witness_RaiseGoesToPowerDown :
    ((full 7 [.fail] []).Inv ∧ ∃ t, step (full 7 [.fail] []) = .next t ∧ t.err = some .transportFailure) ∧
      ((full 19 [] [.timedOut]).Inv ∧ ∃ t, step (full 19 [] [.timedOut]) = .next t ∧ t.err = some .initTimeout) ∧
      ((committed 36 [.fail]).Inv ∧ ∃ t, step (committed 36 [.fail]) = .next t ∧ t.err = some .transportFailure) ∧
      ((full 37 [.fail] []).Inv ∧ ∃ t, step (full 37 [.fail] []) = .next t ∧ t.err = some .transportFailure) :=
  ⟨⟨full_inv _ _ _, _, rfl, rfl⟩, ⟨full_inv _ _ _, _, rfl, rfl⟩, ⟨committed_inv _ _, _, rfl, rfl⟩,
    full_inv _ _ _, _, rfl, rfl⟩

theorem witness_PowerDownNeverAborts :
    ((full 40 [.fail] []).Inv ∧ (full 40 [.fail] []).pc = .step 40 ∧ (41 : Fin 48).val = (40 : Fin 48).val + 1) ∧
      ((full 46 [] []).Inv ∧ (full 46 [] []).pc = .step 46 ∧ (47 : Fin 48).val = (46 : Fin 48).val + 1) :=
  ⟨⟨full_inv _ _ _, rfl, rfl⟩, full_inv _ _ _, rfl, rfl⟩

theorem witness_DecodeReadsBackEverySymbol :
    defaultParams.distinct ∧ (Instr.pixelByte .white .blackNoRefresh).wf = true ∧
      encode defaultParams (.pixelByte .white .blackNoRefresh) = some 0b100110001 ∧
      (Instr.dataByte 0xA5).wf = true ∧ encode defaultParams (.dataByte 0xA5) = some 0b110100101 ∧
      encode defaultParams .flashMode = some 0b011100101 := by
  decide

theorem witness_EverySymbolReadIsEncoded :
    decodeSymbol defaultParams .literals 0b110100101 = .ok (.dataByte 0xA5) ∧
      decodeSymbol defaultParams .pixelStream 0b100110011 = .ok (.pixelByte .white .white) ∧
      decodeSymbol defaultParams .literals 0b000000100 = .ok .powerOn := by
  decide

theorem witness_ForeignSymbolsAreRefused :
    (0xFF : Byte) ∉ commandBytes defaultParams ∧ (0xFF : Byte) ∉ literalBytes ∧ (0xFF : Byte) &&& 0xCC ≠ 0 := by
  decide

theorem witness_StepRunsThePlacedSymbol :
    decodeTableWord 16 0b000000001 = some .powerSetting ∧
      decodeTableWord 16 0b100000011 = some (.pixelByte .black .white) := by
  decide

theorem witness_PowerOnStream :
    (mid 7 (List.replicate 27 .ok) [.cleared]).pc = .step 7 ∧
      (mid 7 (List.replicate 27 .ok) [.cleared]).sessionOpen = false ∧
      (∀ j < 27, (mid 7 (List.replicate 27 .ok) [.cleared]).transportAnswerAt j = .ok) ∧
      (mid 7 (List.replicate 27 .ok) [.cleared]).waitAnswer = .cleared :=
  ⟨rfl, rfl, answers_ok _ _ rfl, rfl⟩

theorem witness_PowerDownStream :
    (mid 40 (List.replicate 4 .ok) [.timedOut]).pc = .step 40 ∧
      (mid 40 (List.replicate 4 .ok) [.timedOut]).sessionOpen = true ∧
      ∀ j < 4, (mid 40 (List.replicate 4 .ok) [.timedOut]).transportAnswerAt j = .ok :=
  ⟨rfl, rfl, answers_ok _ _ rfl⟩

theorem witness_IdleDrivesAreQuietByDefault :
    { mid 45 [] [] with rst := some .high, dc := some .high }.LineInv ∧
      { mid 45 [] [] with rst := some .high, dc := some .high }.pc = .step 45 ∧
      (mid 45 [] []).params.rstActiveLevel = .high ∧ (mid 45 [] []).params.dcCommandLevel = .low ∧
      { mid 45 [] [] with rst := some .high, dc := some .high }.dc = some (dcFor defaultParams .data) := by
  refine ⟨⟨?_, ?_, ?_⟩, rfl, rfl, rfl, rfl⟩ <;> decide

theorem witness_OpenFailureDrivesTheIdleLinesOnly :
    (full 7 [.fail] []).Inv ∧ (full 7 [.fail] []).pc = .step 7 ∧ (full 7 [.fail] []).transportAnswer = .fail :=
  ⟨full_inv _ _ _, rfl, rfl⟩

theorem witness_EveryUpdateEnds : (full 0 [] []).Inv ∧ (full 0 [] []).pc ≠ .idle := ⟨full_inv _ _ _, by decide⟩

theorem witness_PowerDownRunsOnEveryPath :
    ((full 8 [.fail] []).Inv ∧ (full 8 [.fail] []).pc = .step 8) ∧
      ((full 40 [] []).Inv ∧ (full 40 [] []).pc = .step 40) :=
  ⟨⟨full_inv _ _ _, rfl⟩, full_inv _ _ _, rfl⟩

theorem witness_UpdateReturnsOldOrNewFrame :
    ((full 1 [] []).Inv ∧ (full 1 [] []).pc = .step 1) ∧ ((full 39 [] []).Inv ∧ (full 39 [] []).pc = .step 39) :=
  ⟨⟨full_inv _ _ _, rfl⟩, full_inv _ _ _, rfl⟩

/-- The state of P1: reset, one request, all outcomes good. -/
def favourable : State :=
  { State.reset with
    requests := [white], transportAnswers := List.replicate 122913 .ok, waitAnswers := List.replicate 3 .cleared }

theorem favourable_inv : favourable.Inv where
  session := rfl
  error := trivial
  bitmap := trivial
  index := fun h => Pc.noConfusion h
  store := Memory.blank_wf

theorem witness_FavourableUpdate :
    favourable.Inv ∧ favourable.pc = .idle ∧ favourable.requests = white :: [] ∧ white.length = Config.N ∧
      (∀ j < 122913, favourable.transportAnswerAt j = .ok) ∧ (∀ j < 3, favourable.waitAnswerAt j = .cleared) :=
  ⟨favourable_inv, rfl, rfl, white_full, answers_ok _ _ rfl, waits_cleared _ _ rfl⟩

end Sys2Proof.Tests
end

section
/-!
SUPPORT. The state elements across an instruction (10_state.md): what the shared operations keep, the one write each
instruction makes, what a step can do, and the statements of the family settled from these.
-/

namespace Sys2Proof.Machine

variable {s t u : State}

/-! ### What the shared operations keep -/

/-- From `s` to `t` the parameters, the Frame State, the session, the bitmap in flight and the pending calls are
unchanged, and an error latched in `s` is still the one latched in `t` (R17). -/
structure State.Keeps (s t : State) : Prop where
  params : t.params = s.params
  fsValid : t.fsValid = s.fsValid
  fs : t.fs = s.fs
  sessionOpen : t.sessionOpen = s.sessionOpen
  bm : t.bm = s.bm
  requests : t.requests = s.requests
  err : ∀ e, s.err = some e → t.err = some e

namespace State.Keeps

theorem refl (s : State) : s.Keeps s := ⟨rfl, rfl, rfl, rfl, rfl, rfl, fun _ h => h⟩

theorem trans (h : s.Keeps t) (h' : t.Keeps u) : s.Keeps u where
  params := h'.params.trans h.params
  fsValid := h'.fsValid.trans h.fsValid
  fs := h'.fs.trans h.fs
  sessionOpen := h'.sessionOpen.trans h.sessionOpen
  bm := h'.bm.trans h.bm
  requests := h'.requests.trans h.requests
  err e he := h'.err e (h.err e he)

theorem emit (h : s.Keeps t) (e : Event) : s.Keeps (t.emit e) := { h with }

theorem goto (h : s.Keeps t) (p : Pc) : s.Keeps (t.goto p) := { h with }

theorem advance (h : s.Keeps t) : s.Keeps t.advance := { h with }

theorem takeTransport (h : s.Keeps t) : s.Keeps t.takeTransport := { h with }

theorem takeWait (h : s.Keeps t) : s.Keeps t.takeWait := { h with }

theorem drive (h : s.Keeps t) (l : Line) (v : Level) : s.Keeps (t.drive l v) := by
  cases l <;> exact { h with }

theorem holdReset (h : s.Keeps t) (v : Level) (ms : Nat) : s.Keeps (t.holdReset v ms) :=
  ((h.drive .rst v).advance.emit (.delay ms)).advance

theorem transfer (h : s.Keeps t) (k : Select) (b : Byte) : s.Keeps (t.transfer k b) := by
  rw [State.transfer_eq]
  exact { h with }

/-- The first error wins: latching changes `err` only when it is none (R17, R156 (c)). -/
theorem latch (h : s.Keeps t) (e : ErrorKind) : s.Keeps (t.latch e) :=
  { h with err := fun e' he => by rw [State.latch_err, h.err e' he] }

theorem signal (h : s.Keeps t) (e : ErrorKind) : s.Keeps (t.signal e) := by
  unfold State.signal
  split
  · exact h
  · split
    · exact (h.latch e).goto _
    · exact (h.latch e).advance

theorem settle (h : s.Keeps t) (r : TransportOutcome) : s.Keeps (t.settle r) := by
  cases r with
  | ok => exact h.advance
  | fail => exact h.signal _

theorem settlePixel (h : s.Keeps t) (r : TransportOutcome) : s.Keeps (t.settlePixel r) := by
  have hi : s.Keeps { t with idx := t.idx + 1 } := { h with }
  cases r with
  | ok =>
    by_cases hl : t.idx + 1 < Config.NB
    · simpa [State.settlePixel, hl] using hi
    · simpa [State.settlePixel, hl] using hi.advance
  | fail => exact h.signal _

theorem settleWait (h : s.Keeps t) (o : WaitOutcome) (policy : WaitPolicy) : s.Keeps (t.settleWait o policy) := by
  cases o with
  | cleared => exact h.advance
  | timedOut =>
    cases policy with
    | fatal e => exact h.signal e
    | warn w => exact (h.emit _).advance

end State.Keeps

/-! ### What a form that answers a next state answers -/

theorem State.duringUpdate_eq_next {a : Answer} : s.duringUpdate a = .next t ↔ s.pc ≠ .idle ∧ a = .next t := by
  unfold State.duringUpdate
  split <;> simp [*]

theorem State.withSession_eq_next : s.withSession u = .next t ↔ s.sessionOpen = true ∧ u = t := by
  unfold State.withSession
  split <;> simp [*]

theorem State.transferStep_next {k : Select} {b : Byte} (h : s.transferStep k b = .next t) :
    t = (s.transfer k b).settle s.transportAnswer := by
  obtain ⟨-, h⟩ := State.duringUpdate_eq_next.mp h
  exact (State.withSession_eq_next.mp h).2.symm

theorem State.transferStep_keeps {k : Select} {b : Byte} (h : s.transferStep k b = .next t) : s.Keeps t := by
  rw [State.transferStep_next h]
  exact ((State.Keeps.refl s).transfer _ _).settle _

theorem exec_pixelByte_next {a b : PixelCode} (h : exec (.pixelByte a b) s = .next t) :
    t = (s.transfer .data (packCodes a b)).settlePixel s.transportAnswer := by
  obtain ⟨-, h⟩ := State.duringUpdate_eq_next.mp h
  exact (State.withSession_eq_next.mp h).2.symm

theorem exec_update_next {bm : Memory} (h : exec (.update bm) s = .next t) :
    s.pc = .idle ∧ t = { s with bm := bm }.goto (.step 0) := by
  have h : execUpdate bm s = .next t := h
  unfold execUpdate at h
  split at h
  · exact ⟨‹_›, (Host.Outcome.next.inj h).symm⟩
  · cases h

theorem exec_check_next {len : Nat} (h : exec (.check len) s = .next t) :
    t = if len = Config.N then { s with err := none }.advance
      else ({ s with err := some .invalidDimensions }.emit (.log .error .invalidDimensions)).goto (.step 47) :=
  (Host.Outcome.next.inj (State.duringUpdate_eq_next.mp h).2).symm

theorem exec_line_next {l : Line} {v : Level} (h : exec (.line l v) s = .next t) : t = (s.drive l v).advance :=
  (Host.Outcome.next.inj (State.duringUpdate_eq_next.mp h).2).symm

theorem exec_delay_next {ms : Nat} (h : exec (.delay ms) s = .next t) : t = (s.emit (.delay ms)).advance :=
  (Host.Outcome.next.inj (State.duringUpdate_eq_next.mp h).2).symm

theorem exec_openTransport_next {mode hz : Nat} (h : exec (.openTransport mode hz) s = .next t) :
    s.sessionOpen = false ∧
      t = ((s.takeTransport.emit (.openTransport mode hz s.transportAnswer)).setSession
        (s.transportAnswer == .ok)).settle s.transportAnswer := by
  obtain ⟨-, h⟩ := State.duringUpdate_eq_next.mp h
  split at h
  · cases h
  · exact ⟨Bool.eq_false_iff.mpr ‹_›, (Host.Outcome.next.inj h).symm⟩

theorem exec_wait_next {ms : Nat} {policy : WaitPolicy} (h : exec (.wait ms policy) s = .next t) :
    t = (s.takeWait.emit (.wait ms s.waitAnswer)).settleWait s.waitAnswer policy :=
  (Host.Outcome.next.inj (State.duringUpdate_eq_next.mp h).2).symm

theorem exec_closeTransport_next (h : exec .closeTransport s = .next t) :
    t = ((s.takeTransport.emit (.closeTransport s.transportAnswer)).setSession false).settle s.transportAnswer := by
  obtain ⟨-, h⟩ := State.duringUpdate_eq_next.mp h
  exact (State.withSession_eq_next.mp h).2.symm

theorem exec_commit_next (h : exec .commit s = .next t) : s.bm.wf ∧ t = (s.storeFrame s.bm).advance := by
  obtain ⟨-, h⟩ := State.duringUpdate_eq_next.mp h
  split at h
  · exact ⟨‹_›, (Host.Outcome.next.inj h).symm⟩
  · cases h

theorem exec_ret_next (h : exec .ret s = .next t) : t = (s.emit (.ret s.result)).goto .idle :=
  (Host.Outcome.next.inj (State.duringUpdate_eq_next.mp h).2).symm

/-! ### The loop of S36 -/

theorem exec_pixelByte_keeps {a b : PixelCode} (h : exec (.pixelByte a b) s = .next t) : s.Keeps t := by
  rw [exec_pixelByte_next h]
  exact ((State.Keeps.refl s).transfer _ _).settlePixel _

theorem State.pixelPass_keeps (h : s.pixelPass = .next t) : s.Keeps t := by
  unfold State.pixelPass at h
  split at h
  · exact exec_pixelByte_keeps h
  · cases h

theorem pixelLoop_keeps {k : Nat} (h : pixelLoop k s = .next t) : s.Keeps t := by
  induction k generalizing s with
  | zero =>
    obtain rfl := Host.Outcome.next.inj h
    exact .refl s
  | succ k ih =>
    unfold pixelLoop at h
    split at h
    next u hu =>
      have hsu := State.pixelPass_keeps hu
      split at h
      · exact hsu.trans (ih h)
      · obtain rfl := Host.Outcome.next.inj h
        exact hsu
    · cases h
    · cases h

/-! ### The one write of each instruction -/

/-- `s` with the write that is the instruction's own: the bitmap by UPDATE, `err` by CHECK, the session by OPEN and
CLOSE, the Frame State by COMMIT. No other instruction has one. -/
def State.written (s : State) : Instr → State
  | .update bm => { s with bm := bm }
  | .check len => { s with err := if len = Config.N then none else some .invalidDimensions }
  | .openTransport _ _ => s.setSession (s.transportAnswer == .ok)
  | .closeTransport => s.setSession false
  | .commit => s.storeFrame s.bm
  | _ => s

/-- Besides its own write an instruction writes none of the elements of `State.Keeps`, but may latch an error. -/
theorem exec_keeps {i : Instr} (h : exec i s = .next t) : (s.written i).Keeps t := by
  cases i with
  | powerSetting | panelSetting | boosterSoftStart | powerOn | pllControl | vcomDataInterval | tcon
  | resolutionSetting | powerSetting2 | flashMode | startDataTransmission | displayRefresh | powerOff | deepSleep
  | dataByte | cmd | data => exact State.transferStep_keeps h
  | pixelByte => exact exec_pixelByte_keeps h
  | update bm =>
    obtain ⟨-, rfl⟩ := exec_update_next h
    exact (State.Keeps.refl { s with bm := bm }).goto _
  | check len =>
    rw [exec_check_next h, State.written]
    split
    · exact (State.Keeps.refl _).advance
    · exact ((State.Keeps.refl _).emit _).goto _
  | rstpulse =>
    obtain rfl := Host.Outcome.next.inj (State.duringUpdate_eq_next.mp h).2
    exact (((State.Keeps.refl s).holdReset _ _).holdReset _ _).holdReset _ _
  | line =>
    rw [exec_line_next h]
    exact ((State.Keeps.refl s).drive _ _).advance
  | delay =>
    rw [exec_delay_next h]
    exact ((State.Keeps.refl s).emit _).advance
  | openTransport =>
    rw [(exec_openTransport_next h).2]
    exact ((State.Keeps.refl (s.setSession _)).takeTransport.emit _).settle _
  | write =>
    obtain rfl := (State.withSession_eq_next.mp (State.duringUpdate_eq_next.mp h).2).2
    exact (State.Keeps.refl s).takeTransport.emit _
  | xfer =>
    obtain rfl := (State.withSession_eq_next.mp (State.duringUpdate_eq_next.mp h).2).2
    exact (State.Keeps.refl s).transfer _ _
  | wait =>
    rw [exec_wait_next h]
    exact ((State.Keeps.refl s).takeWait.emit _).settleWait _ _
  | pixels =>
    have hi : s.Keeps { s with idx := 0 } := { State.Keeps.refl s with }
    exact hi.trans (pixelLoop_keeps (State.duringUpdate_eq_next.mp h).2)
  | commit =>
    obtain ⟨-, rfl⟩ := exec_commit_next h
    exact (State.Keeps.refl (s.storeFrame s.bm)).advance
  | closeTransport =>
    rw [exec_closeTransport_next h]
    exact ((State.Keeps.refl (s.setSession false)).takeTransport.emit _).settle _
  | log =>
    obtain rfl := Host.Outcome.next.inj (State.duringUpdate_eq_next.mp h).2
    exact (State.Keeps.refl s).emit _
  | ret =>
    rw [exec_ret_next h]
    exact ((State.Keeps.refl s).emit _).goto _

@[simp] theorem State.written_params (s : State) (i : Instr) : (s.written i).params = s.params := by
  cases i <;> rfl

@[simp] theorem State.written_requests (s : State) (i : Instr) : (s.written i).requests = s.requests := by
  cases i <;> rfl

theorem State.written_bm {i : Instr} (s : State) (hi : ∀ bm, i ≠ .update bm) : (s.written i).bm = s.bm := by
  cases i
  case update bm => exact absurd rfl (hi bm)
  all_goals rfl

theorem State.written_err {i : Instr} (s : State) (hi : ∀ len, i ≠ .check len) : (s.written i).err = s.err := by
  cases i
  case check len => exact absurd rfl (hi len)
  all_goals rfl

theorem State.written_fs {i : Instr} (s : State) (hi : i ≠ .commit) : (s.written i).fs = s.fs := by
  cases i
  case commit => exact absurd rfl hi
  all_goals rfl

theorem State.written_fsValid {i : Instr} (s : State) (hi : i ≠ .commit) : (s.written i).fsValid = s.fsValid := by
  cases i
  case commit => exact absurd rfl hi
  all_goals rfl

theorem State.written_sessionOpen {i : Instr} (s : State) (ho : ∀ mode hz, i ≠ .openTransport mode hz)
    (hc : i ≠ .closeTransport) : (s.written i).sessionOpen = s.sessionOpen := by
  cases i
  case openTransport mode hz => exact absurd rfl (ho mode hz)
  case closeTransport => exact absurd rfl hc
  all_goals rfl

/-! ### The writers and what they leave -/

theorem exec_fs_eq {i : Instr} (h : exec i s = .next t) (hi : i ≠ .commit) : t.fs = s.fs :=
  (exec_keeps h).fs.trans (s.written_fs hi)

theorem exec_fsValid_eq {i : Instr} (h : exec i s = .next t) (hi : i ≠ .commit) : t.fsValid = s.fsValid :=
  (exec_keeps h).fsValid.trans (s.written_fsValid hi)

theorem exec_sessionOpen_eq {i : Instr} (h : exec i s = .next t) (ho : ∀ mode hz, i ≠ .openTransport mode hz)
    (hc : i ≠ .closeTransport) : t.sessionOpen = s.sessionOpen :=
  (exec_keeps h).sessionOpen.trans (s.written_sessionOpen ho hc)

theorem exec_sessionOpen_writer {i : Instr} (h : exec i s = .next t) (hne : t.sessionOpen ≠ s.sessionOpen) :
    (∃ mode hz, i = .openTransport mode hz) ∨ i = .closeTransport := by
  by_contra hi
  rw [not_or] at hi
  exact hne (exec_sessionOpen_eq h (fun mode hz ho => hi.1 ⟨mode, hz, ho⟩) hi.2)

theorem exec_openTransport_sessionOpen {mode hz : Nat} (h : exec (.openTransport mode hz) s = .next t) :
    t.sessionOpen = (s.transportAnswer == .ok) :=
  (exec_keeps h).sessionOpen

theorem exec_closeTransport_sessionOpen (h : exec .closeTransport s = .next t) : t.sessionOpen = false :=
  (exec_keeps h).sessionOpen

theorem exec_check_err (h : exec (.check Config.N) s = .next t) : t.err = none := by
  rw [exec_check_next h, if_pos rfl]
  rfl

/-- RET appends the return of the result formed from `err`. -/
theorem exec_ret_trace (h : exec .ret s = .next t) : t.trace = s.trace ++ [.ret s.result] := by
  rw [exec_ret_next h]
  rfl

/-- The Frame State after an instruction: as it was, or a committed one (R35), which has its `N` cells. -/
theorem exec_frame_cases {i : Instr} (h : exec i s = .next t) :
    (t.fs = s.fs ∧ t.fsValid = s.fsValid) ∨ t.fs.wf := by
  by_cases hi : i = .commit
  · subst hi
    obtain ⟨hwf, rfl⟩ := exec_commit_next h
    exact .inr hwf
  · exact .inl ⟨exec_fs_eq h hi, exec_fsValid_eq h hi⟩

theorem exec_keeps_frameInv {i : Instr} (h : exec i s = .next t) (hs : s.FrameInv) : t.FrameInv := by
  rcases exec_frame_cases h with ⟨hfs, hv⟩ | hwf
  · intro htv
    rw [hfs]
    exact hs (hv ▸ htv)
  · exact State.frameInv_of_wf hwf

theorem exec_keeps_fs_wf {i : Instr} (h : exec i s = .next t) (hs : s.fs.wf) : t.fs.wf := by
  rcases exec_frame_cases h with ⟨hfs, -⟩ | hwf
  · rw [hfs]
    exact hs
  · exact hwf

/-! ### What a step can do -/

/-- A step that answers a next state: nothing in IDLE without a request, UPDATE with the first request; at S36 one
pass of the loop, or its end; at any other step the list's entry (R69, R71). -/
theorem step_cases (h : step s = .next t) :
    (s.pc = .idle ∧ t = s) ∨
    (s.pc = .idle ∧ ∃ bm rest, s.requests = bm :: rest ∧ exec (.update bm) { s with requests := rest } = .next t) ∨
    (s.pc = .step 36 ∧ ∃ a b, s.idx < Config.NB ∧ s.codePair s.idx = .ok (a, b) ∧
      exec (.pixelByte a b) s = .next t) ∨
    (s.pc = .step 36 ∧ Config.NB ≤ s.idx ∧ t = s.advance) ∨
    (∃ n, s.pc = .step n ∧ n ≠ 36 ∧ exec (listing s.params s.bm.length n) s = .next t) := by
  cases hp : s.pc with
  | idle =>
    cases hr : s.requests with
    | nil =>
      simp only [step, State.fetch, hp, hr] at h
      exact .inl ⟨rfl, (Host.Outcome.next.inj h).symm⟩
    | cons bm rest =>
      simp only [step, State.fetch, hp, hr] at h
      exact .inr (.inl ⟨rfl, bm, rest, rfl, h⟩)
  | step n =>
    by_cases hn : n = 36
    · subst hn
      simp only [step, State.fetch, hp, if_pos, State.fetchPixel] at h
      by_cases hi : s.idx < Config.NB
      · rw [if_pos hi] at h
        cases hc : s.codePair s.idx with
        | ok c =>
          rw [hc] at h
          exact .inr (.inr (.inl ⟨rfl, c.1, c.2, hi, rfl, h⟩))
        | error f =>
          rw [hc] at h
          cases h
      · rw [if_neg hi] at h
        exact .inr (.inr (.inr (.inl ⟨rfl, Nat.le_of_not_lt hi, (Host.Outcome.next.inj h).symm⟩)))
    · rw [step_listing hp hn] at h
      exact .inr (.inr (.inr (.inr ⟨n, rfl, hn, h⟩)))

theorem step_keeps_frameInv (h : step s = .next t) (hs : s.FrameInv) : t.FrameInv := by
  rcases step_cases h with ⟨-, rfl⟩ | ⟨-, bm, rest, -, h⟩ | ⟨-, a, b, -, -, h⟩ | ⟨-, -, rfl⟩ | ⟨n, -, -, h⟩
  · exact hs
  · exact exec_keeps_frameInv h hs
  · exact exec_keeps_frameInv h hs
  · exact hs
  · exact exec_keeps_frameInv h hs

/-! ### The session range S08 to S44 -/

/-- The steps during which a session is open (R12, R23). -/
def Pc.inSession : Pc → Bool
  | .idle => false
  | .step n => decide (8 ≤ n.val ∧ n.val ≤ 44)

theorem State.sessionInv_iff : s.SessionInv ↔ s.sessionOpen = s.pc.inSession := by
  unfold State.SessionInv Pc.inSession
  cases s.pc <;> rfl

/-- Only S07 and S44 are followed by a step on the other side of the range. -/
theorem Pc.next_inSession : ∀ n : Fin 48, n ≠ 7 → n ≠ 44 → (Pc.step n).next.inSession = (Pc.step n).inSession := by
  decide

theorem Pc.step_inSession {n : Fin 48} (h8 : 8 ≤ n.val) (h44 : n.val ≤ 44) : (Pc.step n).inSession = true :=
  decide_eq_true ⟨h8, h44⟩

/-- An error taken at S08 to S43 leaves the block inside the range: at `PD` (S40), or at the next step (R157, R158). -/
theorem State.signal_inSession {n : Fin 48} (hp : s.pc = .step n) (h8 : 8 ≤ n.val) (h43 : n.val ≤ 43)
    (e : ErrorKind) : (s.signal e).pc.inSession = true := by
  by_cases h : n.val < 40
  · rw [State.signal_raise hp h (by rintro rfl; contradiction)]
    rfl
  · rw [State.signal_latch (m := ⟨n.val + 1, by omega⟩) hp (by omega) rfl]
    exact Pc.step_inSession (by simp; omega) (by simp; omega)

theorem State.advance_inSession {n : Fin 48} (hp : s.pc = .step n) (h8 : 8 ≤ n.val) (h43 : n.val ≤ 43) :
    s.advance.pc.inSession = true := by
  rw [State.advance_eq (m := ⟨n.val + 1, by omega⟩) hp rfl]
  exact Pc.step_inSession (by simp; omega) (by simp; omega)

theorem State.settle_inSession {n : Fin 48} (hp : s.pc = .step n) (h8 : 8 ≤ n.val) (h43 : n.val ≤ 43)
    (r : TransportOutcome) : (s.settle r).pc.inSession = true := by
  cases r with
  | ok => exact State.advance_inSession hp h8 h43
  | fail => exact State.signal_inSession hp h8 h43 _

theorem State.settleWait_inSession {n : Fin 48} (hp : s.pc = .step n) (h8 : 8 ≤ n.val) (h43 : n.val ≤ 43)
    (o : WaitOutcome) (policy : WaitPolicy) : (s.settleWait o policy).pc.inSession = true := by
  cases o with
  | cleared => exact State.advance_inSession hp h8 h43
  | timedOut =>
    cases policy with
    | fatal e => exact State.signal_inSession hp h8 h43 e
    | warn w => exact State.advance_inSession (s := s.emit _) hp h8 h43

/-- One pass of the loop stays at its step, or leaves it for the next one or for `PD` (R102, R157). -/
theorem State.settlePixel_inSession {n : Fin 48} (hp : s.pc = .step n) (h8 : 8 ≤ n.val) (h43 : n.val ≤ 43)
    (r : TransportOutcome) : (s.settlePixel r).pc.inSession = true := by
  cases r with
  | ok =>
    by_cases hl : s.idx + 1 < Config.NB
    · simpa [State.settlePixel, hl, hp] using Pc.step_inSession h8 (by omega)
    · simpa [State.settlePixel, hl] using State.advance_inSession hp h8 h43
  | fail => exact State.signal_inSession hp h8 h43 _

/-- A step at S08 to S43 that leaves the session alone and `pc` inside the range. -/
theorem State.SessionInv.of_inSession {n : Fin 48} (hs : s.SessionInv) (hp : s.pc = .step n) (h8 : 8 ≤ n.val)
    (h43 : n.val ≤ 43) (ho : t.sessionOpen = s.sessionOpen) (ht : t.pc.inSession = true) : t.SessionInv := by
  rw [State.sessionInv_iff] at hs ⊢
  rw [ho, hs, hp, ht]
  exact Pc.step_inSession h8 (by omega)

/-- A step outside S07 and S44 that leaves the session alone and goes on to the next step. -/
theorem State.SessionInv.of_next {n : Fin 48} (hs : s.SessionInv) (hp : s.pc = .step n) (h7 : n ≠ 7) (h44 : n ≠ 44)
    (ho : t.sessionOpen = s.sessionOpen) (ht : t.pc = s.pc.next) : t.SessionInv := by
  rw [State.sessionInv_iff] at hs ⊢
  rw [ho, hs, ht, hp, Pc.next_inSession n h7 h44]

theorem exec_line_keeps_sessionInv {n : Fin 48} {l : Line} {v : Level} (h : exec (.line l v) s = .next t)
    (hs : s.SessionInv) (hp : s.pc = .step n) (h7 : n ≠ 7) (h44 : n ≠ 44) : t.SessionInv :=
  hs.of_next hp h7 h44 (exec_keeps h).sessionOpen (by rw [exec_line_next h]; simp)

theorem exec_wait_keeps_sessionInv {n : Fin 48} {ms : Nat} {policy : WaitPolicy}
    (h : exec (.wait ms policy) s = .next t) (hs : s.SessionInv) (hp : s.pc = .step n) (h8 : 8 ≤ n.val)
    (h43 : n.val ≤ 43) : t.SessionInv := by
  refine hs.of_inSession hp h8 h43 (exec_keeps h).sessionOpen ?_
  rw [exec_wait_next h]
  exact State.settleWait_inSession (s := s.takeWait.emit _) hp h8 h43 _ _

theorem transferStep_keeps_sessionInv {n : Fin 48} {k : Select} {b : Byte} (h : s.transferStep k b = .next t)
    (hs : s.SessionInv) (hp : s.pc = .step n) (h8 : 8 ≤ n.val) (h43 : n.val ≤ 43) : t.SessionInv := by
  refine hs.of_inSession hp h8 h43 (State.transferStep_keeps h).sessionOpen ?_
  rw [State.transferStep_next h, State.transfer_eq]
  exact State.settle_inSession (s := s.sent k b) hp h8 h43 _

theorem exec_pixelByte_keeps_sessionInv {n : Fin 48} {a b : PixelCode} (h : exec (.pixelByte a b) s = .next t)
    (hs : s.SessionInv) (hp : s.pc = .step n) (h8 : 8 ≤ n.val) (h43 : n.val ≤ 43) : t.SessionInv := by
  refine hs.of_inSession hp h8 h43 (exec_pixelByte_keeps h).sessionOpen ?_
  rw [exec_pixelByte_next h, State.transfer_eq]
  exact State.settlePixel_inSession (s := s.sent _ _) hp h8 h43 _

/-- CHECK goes on to S01 or to the return, and there is no session at either (R68). -/
theorem exec_check_keeps_sessionInv {len : Nat} (h : exec (.check len) s = .next t) (hs : s.SessionInv)
    (hp : s.pc = .step 0) : t.SessionInv := by
  have hs' : s.sessionOpen = false := by simpa [State.SessionInv, hp] using hs
  have ho : t.sessionOpen = false := (exec_keeps h).sessionOpen.trans hs'
  rw [State.sessionInv_iff, ho, exec_check_next h]
  split
  · rw [State.advance_pc, hp]
    rfl
  · rfl

/-- After OPEN: S08, or `PDL` (S45) on a failure (R133, R157). -/
theorem State.settle_pc_of_open (hp : s.pc = .step 7) (r : TransportOutcome) :
    (s.settle r).pc = .step (if r = .ok then 8 else 45) := by
  cases r with
  | ok =>
    rw [State.settle, State.advance_eq (m := 8) hp rfl]
    rfl
  | fail =>
    rw [State.settle, State.signal_raise_open hp]
    rfl

/-- After CLOSE: S45, on either outcome (R140, R158). -/
theorem State.settle_pc_of_close (hp : s.pc = .step 44) (r : TransportOutcome) : (s.settle r).pc = .step 45 := by
  rw [State.settle_eq (m := 45) hp rfl (by decide)]
  cases r <;> rfl

theorem exec_openTransport_sessionInv {mode hz : Nat} (h : exec (.openTransport mode hz) s = .next t)
    (hp : s.pc = .step 7) : t.SessionInv := by
  have ht : t.pc = .step (if s.transportAnswer = .ok then 8 else 45) := by
    rw [(exec_openTransport_next h).2]
    exact State.settle_pc_of_open (by exact hp) _
  rw [State.sessionInv_iff, exec_openTransport_sessionOpen h, ht]
  cases s.transportAnswer <;> rfl

theorem exec_closeTransport_sessionInv (h : exec .closeTransport s = .next t) (hp : s.pc = .step 44) :
    t.SessionInv := by
  have ht : t.pc = .step 45 := by
    rw [exec_closeTransport_next h]
    exact State.settle_pc_of_close (by exact hp) _
  rw [State.sessionInv_iff, exec_closeTransport_sessionOpen h, ht]
  rfl

theorem exec_ret_keeps_sessionInv (h : exec .ret s = .next t) (hs : s.SessionInv) (hp : s.pc = .step 47) :
    t.SessionInv := by
  refine hs.of_next hp (by decide) (by decide) (exec_keeps h).sessionOpen ?_
  rw [exec_ret_next h, hp]
  rfl

theorem exec_listing_keeps_sessionInv {n : Fin 48} (hp : s.pc = .step n) (hn : n ≠ 36)
    (h : exec (listing s.params s.bm.length n) s = .next t) (hs : s.SessionInv) : t.SessionInv := by
  rcases listing_cases s.params s.bm.length n hn with
    ⟨rfl, hl⟩ | ⟨_, h5, v, hl, -⟩ | ⟨_, h6, -, ms, hl⟩ | ⟨rfl, hl⟩ | ⟨h8, h43, -, -, -, -, k, b, hl⟩ | ⟨rfl, hl⟩ |
    ⟨rfl, hl⟩ | ⟨rfl, hl⟩ | ⟨rfl, hl⟩ | ⟨rfl, hl⟩ | ⟨rfl, hl⟩ | ⟨rfl, hl⟩ | ⟨rfl, hl⟩
  case inr.inr.inr.inr.inl =>
    rw [exec_sentSymbol hl] at h
    exact transferStep_keeps_sessionInv h hs hp h8 h43
  all_goals rw [hl] at h
  · exact exec_check_keeps_sessionInv h hs hp
  · exact exec_line_keeps_sessionInv h hs hp (by rintro rfl; contradiction) (by rintro rfl; contradiction)
  · refine hs.of_next hp (by rintro rfl; contradiction) (by rintro rfl; contradiction) (exec_keeps h).sessionOpen ?_
    rw [exec_delay_next h]
    rfl
  · exact exec_openTransport_sessionInv h hp
  · exact exec_wait_keeps_sessionInv h hs hp (by decide) (by decide)
  · exact exec_wait_keeps_sessionInv h hs hp (by decide) (by decide)
  · refine hs.of_next hp (by decide) (by decide) (exec_keeps h).sessionOpen ?_
    rw [(exec_commit_next h).2]
    rfl
  · exact exec_wait_keeps_sessionInv h hs hp (by decide) (by decide)
  · exact exec_closeTransport_sessionInv h hp
  · exact exec_line_keeps_sessionInv h hs hp (by decide) (by decide)
  · exact exec_line_keeps_sessionInv h hs hp (by decide) (by decide)
  · exact exec_ret_keeps_sessionInv h hs hp

theorem step_keeps_sessionInv (h : step s = .next t) (hs : s.SessionInv) : t.SessionInv := by
  rcases step_cases h with ⟨-, rfl⟩ | ⟨hp, bm, rest, -, h⟩ | ⟨hp, a, b, -, -, h⟩ | ⟨hp, -, rfl⟩ | ⟨n, hp, hn, h⟩
  · exact hs
  · obtain ⟨-, rfl⟩ := exec_update_next h
    have ho : s.sessionOpen = false := by simpa [State.SessionInv, hp] using hs
    exact ho
  · exact exec_pixelByte_keeps_sessionInv h hs hp (by decide) (by decide)
  · exact hs.of_next hp (by decide) (by decide) rfl rfl
  · exact exec_listing_keeps_sessionInv hp hn h hs

/-! ### The statements of the family -/

/-- Settles O4: only COMMIT writes the store, and it stops on a bitmap of another length. -/
theorem frameStateLengthIsKept : Obligations.FrameStateLengthIsKept :=
  ⟨State.frameInv_of_wf reset_fs_wf, fun _ _ _ => exec_keeps_frameInv, fun _ _ => step_keeps_frameInv, reset_fs_wf,
    fun _ _ _ => exec_keeps_fs_wf⟩

/-- Settles O5, by the kind of the step run. -/
theorem sessionExistsOnlyInsideAnUpdate : Obligations.SessionExistsOnlyInsideAnUpdate := by
  refine ⟨rfl, fun s t hs h => step_keeps_sessionInv h hs, fun s hs hp => ?_⟩
  rw [State.sessionInv_iff.mp hs, hp]
  rfl

/-- Settles O7: OPEN and CLOSE are the instructions whose own write is the session. -/
theorem sessionWrittenOnlyByOpenAndClose : Obligations.SessionWrittenOnlyByOpenAndClose := by
  refine ⟨rfl, fun s t mode hz h => ?_, fun s t => exec_closeTransport_sessionOpen, fun i s t h hne => ?_⟩
  · rw [exec_openTransport_sessionOpen h]
    cases s.transportAnswer <;> rfl
  · rcases exec_sessionOpen_writer h hne with ⟨mode, hz, rfl⟩ | rfl
    · obtain ⟨hs, -⟩ := exec_openTransport_next h
      have ht : t.sessionOpen = true := by simpa [hs] using hne
      have hr : s.transportAnswer = .ok := by simpa [exec_openTransport_sessionOpen h] using ht
      exact .inl ⟨mode, hz, rfl, hr, ht⟩
    · exact .inr ⟨rfl, exec_closeTransport_sessionOpen h⟩

/-- Settles O8: COMMIT is the instruction whose own write is the Frame State. -/
theorem frameStateWrittenOnlyByCommit : Obligations.FrameStateWrittenOnlyByCommit :=
  ⟨rfl, fun _ _ _ h hi => ⟨exec_fs_eq h hi, exec_fsValid_eq h hi⟩,
    fun _ _ h => ⟨(exec_keeps h).fs, (exec_keeps h).fsValid⟩⟩

/-- Settles O9: every instruction keeps a latched error over its own write, and only CHECK's own write is `err`. -/
theorem firstErrorWins : Obligations.FirstErrorWins :=
  ⟨rfl, fun _ s _ e h hi he => (exec_keeps h).err e ((s.written_err hi).trans he), fun _ _ => exec_check_err,
    fun _ _ => exec_ret_trace⟩

/-- Settles O10: no own write is to the parameters or the pending calls, and only UPDATE's is to the bitmap. -/
theorem parametersAndBitmapAreFixed : Obligations.ParametersAndBitmapAreFixed := by
  intro i s t h
  have hk := exec_keeps h
  exact ⟨hk.params.trans (s.written_params i), fun hi => hk.bm.trans (s.written_bm hi),
    hk.requests.trans (s.written_requests i)⟩

end Sys2Proof.Machine
end

section
/-!
SUPPORT. The trace and the commit (20_memory.md): what each shared operation does to the trace, that an instruction and
a step only append to it (R38, R40), and the commit as one equation of states (R35).
-/

namespace Sys2Proof.Machine

variable {s t : State}

/-! ### The trace after a shared operation -/

@[simp] theorem State.writeByte_trace (s : State) (b : Byte) :
    (s.writeByte b).trace = s.trace ++ [.write b s.transportAnswer] := rfl

@[simp] theorem State.transfer_trace (s : State) (k : Select) (b : Byte) :
    (s.transfer k b).trace = s.trace ++ transferEvents s.params k b s.transportAnswer := by
  rw [State.transfer_eq, State.sent]

@[simp] theorem State.holdReset_trace (s : State) (v : Level) (ms : Nat) :
    (s.holdReset v ms).trace = s.trace ++ [.line .rst v, .delay ms] := by
  simp [State.holdReset]

@[simp] theorem State.settlePixel_trace (s : State) (r : TransportOutcome) : (s.settlePixel r).trace = s.trace := by
  cases r with
  | ok => by_cases hi : s.idx + 1 < Config.NB <;> simp [State.settlePixel, hi]
  | fail => exact State.signal_trace s _

/-- The end of a wait adds at most the log entry of a warning. -/
theorem State.settleWait_trace_prefix (s : State) (o : WaitOutcome) (policy : WaitPolicy) :
    s.trace <+: (s.settleWait o policy).trace := by
  cases o with
  | cleared => exact List.prefix_rfl
  | timedOut =>
    cases policy with
    | fatal e => simp [State.settleWait]
    | warn w => simp [State.settleWait]

/-! ### What an instruction and a step append -/

theorem State.transferStep_trace {k : Select} {b : Byte} (h : s.transferStep k b = .next t) :
    t.trace = s.trace ++ transferEvents s.params k b s.transportAnswer := by
  rw [State.transferStep_next h, State.settle_trace, State.transfer_trace]

theorem exec_pixelByte_trace {a b : PixelCode} (h : exec (.pixelByte a b) s = .next t) :
    t.trace = s.trace ++ transferEvents s.params .data (packCodes a b) s.transportAnswer := by
  rw [exec_pixelByte_next h, State.settlePixel_trace, State.transfer_trace]

theorem State.pixelPass_trace_prefix (h : s.pixelPass = .next t) : s.trace <+: t.trace := by
  unfold State.pixelPass at h
  split at h
  · exact ⟨_, (exec_pixelByte_trace h).symm⟩
  · cases h

theorem pixelLoop_trace_prefix {k : Nat} (h : pixelLoop k s = .next t) : s.trace <+: t.trace := by
  induction k generalizing s with
  | zero =>
    obtain rfl := Host.Outcome.next.inj h
    exact List.prefix_rfl
  | succ k ih =>
    unfold pixelLoop at h
    split at h
    next u hu =>
      have hsu := State.pixelPass_trace_prefix hu
      split at h
      · exact hsu.trans (ih h)
      · obtain rfl := Host.Outcome.next.inj h
        exact hsu
    · cases h
    · cases h

theorem exec_trace_prefix {i : Instr} (h : exec i s = .next t) : s.trace <+: t.trace := by
  cases i with
  | powerSetting | panelSetting | boosterSoftStart | powerOn | pllControl | vcomDataInterval | tcon
  | resolutionSetting | powerSetting2 | flashMode | startDataTransmission | displayRefresh | powerOff | deepSleep
  | dataByte | cmd | data => exact ⟨_, (State.transferStep_trace h).symm⟩
  | pixelByte => exact ⟨_, (exec_pixelByte_trace h).symm⟩
  | update =>
    obtain ⟨-, rfl⟩ := exec_update_next h
    exact List.prefix_rfl
  | check =>
    rw [exec_check_next h]
    split
    · exact List.prefix_rfl
    · exact List.prefix_append _ _
  | rstpulse =>
    obtain rfl := Host.Outcome.next.inj (State.duringUpdate_eq_next.mp h).2
    simp
  | line => simp [exec_line_next h]
  | delay => simp [exec_delay_next h]
  | openTransport => simp [(exec_openTransport_next h).2]
  | write =>
    obtain rfl := (State.withSession_eq_next.mp (State.duringUpdate_eq_next.mp h).2).2
    simp
  | xfer =>
    obtain rfl := (State.withSession_eq_next.mp (State.duringUpdate_eq_next.mp h).2).2
    simp
  | wait ms policy =>
    rw [exec_wait_next h]
    have he : s.trace <+: (s.takeWait.emit (.wait ms s.waitAnswer)).trace := List.prefix_append _ _
    exact he.trans (State.settleWait_trace_prefix _ _ _)
  | pixels => exact pixelLoop_trace_prefix (s := { s with idx := 0 }) (State.duringUpdate_eq_next.mp h).2
  | commit => simp [(exec_commit_next h).2]
  | closeTransport => simp [exec_closeTransport_next h]
  | log =>
    obtain rfl := Host.Outcome.next.inj (State.duringUpdate_eq_next.mp h).2
    simp
  | ret => exact ⟨_, (exec_ret_trace h).symm⟩

theorem step_trace_prefix (h : step s = .next t) : s.trace <+: t.trace := by
  rcases step_cases h with ⟨-, rfl⟩ | ⟨-, bm, rest, -, h⟩ | ⟨-, a, b, -, -, h⟩ | ⟨-, -, rfl⟩ | ⟨n, -, -, h⟩
  · exact List.prefix_rfl
  · exact exec_trace_prefix (s := { s with requests := rest }) h
  · exact exec_trace_prefix h
  · exact List.prefix_rfl
  · exact exec_trace_prefix h

/-! ### The commit -/

theorem exec_commit {n : Fin 48} (hp : s.pc = .step n) (hb : s.bm.wf) :
    exec .commit s = .next (s.storeFrame s.bm).advance := by
  have h : exec .commit s = execCommit s := rfl
  rw [h, execCommit, State.duringUpdate_step hp, if_pos hb]

/-! ### The statements of the family -/

/-- Settles O11: what an instruction or a step leaves in the trace begins with the trace it found. -/
theorem traceOnlyGrows : Obligations.TraceOnlyGrows := by
  refine ⟨fun i s t h => ?_, fun s t h => ?_⟩
  · obtain ⟨es, he⟩ := exec_trace_prefix h
    exact ⟨es, he.symm⟩
  · obtain ⟨es, he⟩ := step_trace_prefix h
    exact ⟨es, he.symm⟩

/-- Settles O41: the store of the bitmap, then the next step, which is all that COMMIT does. -/
theorem commitCopiesTheBitmap : Obligations.CommitCopiesTheBitmap := by
  intro s n m hp hm hb
  have hq : (s.storeFrame s.bm).pc = .step n := hp
  rw [exec_commit hp hb, State.advance_eq hq hm]
  rfl

end Sys2Proof.Machine
end

section
/-!
SUPPORT. The wire encoding (30_encoding.md): the two parts of a symbol, the packed byte and its two codes, the command
map and its inverse, one equation for the encoder and one per frame for the decoder, the symbol that a transfer puts on
the bus, and the statements of the family settled from these.
-/

namespace Sys2Proof

variable {p : Params} {i j : Instr} {b : Byte} {w : Symbol}

/-! ### The two parts of a symbol -/

@[simp] theorem Symbol.select_mk (k : Select) (b : Byte) : Symbol.select (Symbol.mk k b) = k := by
  rw [Symbol.select, Laws.SelectBit.mk_bit]
  cases k <;> rfl

@[simp] theorem Symbol.byte_mk (k : Select) (b : Byte) : Symbol.byte (Symbol.mk k b) = b := by
  cases k <;> exact BitVec.extractLsb'_append_eq_right

/-- Every symbol is a select bit and a byte (R45). -/
theorem Symbol.exists_eq_mk (w : Symbol) : ∃ k b, w = Symbol.mk k b := by
  have hw : w.extractLsb' 8 1 ++ w.extractLsb' 0 8 = w :=
    (BitVec.extractLsb'_append_extractLsb'_eq_extractLsb' rfl).trans BitVec.extractLsb'_eq_self
  rcases BitVec.eq_zero_or_eq_one (w.extractLsb' 8 1) with h | h
  · exact ⟨.command, w.extractLsb' 0 8, by rw [Symbol.mk, ← h, hw]⟩
  · exact ⟨.data, w.extractLsb' 0 8, by rw [Symbol.mk, ← h, hw]⟩

/-! ### The packed byte -/

@[simp] theorem PixelCode.ofBits_bits (c : PixelCode) : PixelCode.ofBits c.bits = c := by cases c <;> rfl

@[simp] theorem PixelCode.bits_ofBits (v : BitVec 2) : (PixelCode.ofBits v).bits = v := by
  revert v; decide

@[simp] theorem evenCode_packCodes (a b : PixelCode) : evenCode (packCodes a b) = a := by
  cases a <;> cases b <;> rfl

@[simp] theorem oddCode_packCodes (a b : PixelCode) : oddCode (packCodes a b) = b := by
  cases a <;> cases b <;> rfl

/-- Two codes pack to one of the sixteen values of R51. -/
theorem packCodes_mem_sixteen (a b : PixelCode) :
    packCodes a b ∈
      ([0x00, 0x01, 0x02, 0x03, 0x10, 0x11, 0x12, 0x13, 0x20, 0x21, 0x22, 0x23, 0x30, 0x31, 0x32, 0x33] : List Byte) := by
  cases a <;> cases b <;> decide

/-- A packed byte has bits 7, 6, 3 and 2 clear (R51). -/
@[simp] theorem isPacked_packCodes (a b : PixelCode) : isPacked (packCodes a b) = true := by
  cases a <;> cases b <;> rfl

/-- Packing the two codes of a byte clears its bits 7, 6, 3 and 2. -/
theorem packCodes_evenCode_oddCode (b : Byte) : packCodes (evenCode b) (oddCode b) = b &&& 0x33 := by
  simp only [packCodes, evenCode, oddCode, PixelCode.bits_ofBits]
  ext n hn
  interval_cases n <;> simp

theorem packCodes_of_isPacked (h : isPacked b = true) : packCodes (evenCode b) (oddCode b) = b := by
  have hb : b &&& 0xCC = 0 := by simpa [isPacked] using h
  calc packCodes (evenCode b) (oddCode b) = b &&& 0x33 := packCodes_evenCode_oddCode b
    _ = (b &&& 0x33) ||| (b &&& 0xCC) := by rw [hb]; exact (BitVec.or_zero).symm
    _ = b &&& 0xFF#8 := by rw [← BitVec.and_or_distrib_left]; rfl
    _ = b := BitVec.and_allOnes

/-! ### The command map and its inverse -/

theorem Instr.mem_commandSymbols (h : i.commandByte p = some b) : i ∈ commandSymbols := by
  cases i with
  | powerSetting | panelSetting | boosterSoftStart | powerOn | pllControl | vcomDataInterval | tcon
  | resolutionSetting | powerSetting2 | flashMode | startDataTransmission | displayRefresh | powerOff
  | deepSleep => decide
  | _ => cases h

/-- Distinct command bytes name distinct commands (R47). -/
theorem Instr.commandByte_inj (hd : p.distinct) (hi : i.commandByte p = some b) (hj : j.commandByte p = some b) :
    i = j := by
  have hs : ((commandBytes p).map some).Nodup := List.Nodup.map (Option.some_injective Byte) hd
  have hn : (commandSymbols.map (Instr.commandByte p)).Nodup := hs
  exact List.inj_on_of_nodup_map hn (mem_commandSymbols hi) (mem_commandSymbols hj) (hi.trans hj.symm)

/-- The command symbol with the byte `b`: the search the decoder makes. -/
def commandOf (p : Params) (b : Byte) : Option Instr := commandSymbols.find? (fun i => i.commandByte p == some b)

theorem commandByte_of_commandOf (h : commandOf p b = some i) : i.commandByte p = some b := by
  simpa using List.find?_some h

theorem commandOf_eq_none_iff : commandOf p b = none ↔ b ∉ commandBytes p := by
  simp [commandOf, commandBytes]

theorem commandOf_of_commandByte (hd : p.distinct) (h : i.commandByte p = some b) : commandOf p b = some i := by
  cases hc : commandOf p b with
  | none => exact absurd (List.mem_filterMap.mpr ⟨i, i.mem_commandSymbols h, h⟩) (commandOf_eq_none_iff.mp hc)
  | some j => rw [Instr.commandByte_inj hd (commandByte_of_commandOf hc) h]

/-- A command symbol has no operands, so it is well formed. -/
theorem Instr.wf_of_commandByte (h : i.commandByte p = some b) : i.wf = true := by
  have hall : ∀ j ∈ commandSymbols, j.wf = true := by decide
  exact hall i (i.mem_commandSymbols h)

/-! ### The encoder and the decoder -/

/-- The forms that have a symbol are the fourteen commands and the two data forms (R47, R50, R60). -/
theorem encode_eq_some_iff :
    encode p i = some w ↔
      (∃ b, i.commandByte p = some b ∧ w = Symbol.mk .command b) ∨
      (∃ d, i = .dataByte d ∧ w = Symbol.mk .data d) ∨
      (∃ a b, i = .pixelByte a b ∧ w = Symbol.mk .data (packCodes a b)) := by
  cases i <;> simp [encode, Instr.commandByte, eq_comm]

theorem decodeSymbol_command (p : Params) (f : Frame) (b : Byte) :
    decodeSymbol p f (Symbol.mk .command b) = (commandOf p b).elim (.error (.unknownCommand b)) .ok := by
  simp only [decodeSymbol, Symbol.select_mk, Symbol.byte_mk, commandOf]
  cases commandSymbols.find? (fun i => i.commandByte p == some b) <;> rfl

theorem decodeSymbol_data_literals (p : Params) (b : Byte) :
    decodeSymbol p .literals (Symbol.mk .data b) =
      if b ∈ literalBytes then .ok (.dataByte b) else .error (.notALiteral b) := by
  simp [decodeSymbol]

theorem decodeSymbol_data_pixelStream (p : Params) (b : Byte) :
    decodeSymbol p .pixelStream (Symbol.mk .data b) =
      if isPacked b then .ok (.pixelByte (evenCode b) (oddCode b)) else .error (.notAPackedByte b) := by
  simp [decodeSymbol]

end Sys2Proof

namespace Sys2Proof.Machine

/-! ### The symbol a transfer puts on the bus -/

/-- Chip-select drives put nothing on the bus. -/
theorem busSymbols_cs_append (p : Params) (dc : Option Level) (vs : List Level) (es : List Event) :
    busSymbols p dc (vs.map (.line .cs) ++ es) = busSymbols p dc es := by
  induction vs with
  | nil => rfl
  | cons v vs ih => simpa [busSymbols] using ih

/-- The command-select level tells commands from data (R136). -/
theorem dcFor_eq_command_iff (p : Params) (k : Select) : dcFor p k = p.dcCommandLevel ↔ k = .command := by
  cases k <;> cases h : p.dcCommandLevel <;> simp [dcFor, h]

/-- The events of one transfer, read from any level of the command-select line (R45, R189). -/
theorem busSymbols_transferEvents (p : Params) (dc : Option Level) (k : Select) (b : Byte) (r : TransportOutcome) :
    busSymbols p dc (transferEvents p k b r) = [Symbol.mk k b] := by
  have htail (v : Level) :
      busSymbols p (some v) (if r = .ok then (drivesAfter p.csByteSlot).map (.line .cs) else []) = [] := by
    split
    · simpa [busSymbols] using busSymbols_cs_append p (some v) (drivesAfter p.csByteSlot) []
    · rfl
  have hk : (if dcFor p k = p.dcCommandLevel then Select.command else .data) = k := by
    cases k <;> simp [dcFor_eq_command_iff]
  simp only [transferEvents, List.cons_append, List.append_assoc, busSymbols, busSymbols_cs_append, List.nil_append,
    htail, hk]

theorem exec_xfer_trace {s t : State} {k : Select} {b : Byte} (h : exec (.xfer k b) s = .next t) :
    t.trace = s.trace ++ transferEvents s.params k b s.transportAnswer := by
  obtain ⟨-, h⟩ := State.duringUpdate_eq_next.mp h
  obtain ⟨-, rfl⟩ := State.withSession_eq_next.mp h
  exact State.transfer_trace s k b

/-! ### The statements of the family -/

/-- Settles O47: the search among distinct commands gives back the one searched for, and the packed byte its codes. -/
theorem decodeReadsBackEverySymbol : Obligations.DecodeReadsBackEverySymbol := by
  intro p i w hd hwf hw
  rcases encode_eq_some_iff.mp hw with ⟨b, hb, rfl⟩ | ⟨d, rfl, rfl⟩ | ⟨a, b, rfl, rfl⟩
  · rw [decodeSymbol_command, commandOf_of_commandByte hd hb, Option.elim_some]
  · have hm : d ∈ literalBytes := List.contains_iff_mem.mp hwf
    rw [Instr.frame, decodeSymbol_data_literals, if_pos hm]
  · rw [Instr.frame, decodeSymbol_data_pixelStream, if_pos (isPacked_packCodes a b), evenCode_packCodes,
      oddCode_packCodes]

/-- Settles O26: a form of one transfer is that transfer, and S08 and later are not S07. -/
theorem symbolFormsTransferTheirSymbol : Obligations.SymbolFormsTransferTheirSymbol := by
  intro i k b s n m hi hp hm h8 ho
  have h7 : n ≠ 7 := by rintro rfl; exact absurd h8 (by decide)
  rw [exec_sentSymbol hi, State.transferStep_eq hp hm h7 ho]

/-- Settles O29: the events appended are those of one transfer. -/
theorem transferPutsItsSymbolOnTheBus : Obligations.TransferPutsItsSymbolOnTheBus :=
  fun s _ k b h => ⟨_, exec_xfer_trace h, busSymbols_transferEvents s.params s.dc k b _⟩

/-- Settles O35: whatever the two pixels and the earlier frame, the packed byte is that of two codes. -/
theorem onlySixteenPackedBytes : Obligations.OnlySixteenPackedBytes := fun _ _ _ => packCodes_mem_sixteen _ _

/-- Settles O48: by the select bit of the symbol, and the frame for a data symbol. -/
theorem everySymbolReadIsEncoded : Obligations.EverySymbolReadIsEncoded := by
  intro p f w i h
  obtain ⟨k, b, rfl⟩ := w.exists_eq_mk
  rw [encode_eq_some_iff]
  cases k with
  | command =>
    rw [decodeSymbol_command] at h
    cases hc : commandOf p b with
    | none => simp [hc] at h
    | some j =>
      obtain rfl : j = i := by simpa [hc] using h
      have hb := commandByte_of_commandOf hc
      exact ⟨.inl ⟨b, hb, rfl⟩, Instr.wf_of_commandByte hb⟩
  | data =>
    cases f with
    | literals =>
      rw [decodeSymbol_data_literals] at h
      split at h
      next hb =>
        cases h
        exact ⟨.inr (.inl ⟨b, rfl, rfl⟩), List.contains_iff_mem.mpr hb⟩
      next => cases h
    | pixelStream =>
      rw [decodeSymbol_data_pixelStream] at h
      split at h
      next hb =>
        cases h
        exact ⟨.inr (.inr ⟨_, _, rfl, by rw [packCodes_of_isPacked hb]⟩), rfl⟩
      next => cases h

/-- Settles O18: the four codes as R55 lists them. -/
theorem resultCodes : Obligations.ResultCodes := ⟨rfl, rfl, rfl, rfl⟩

/-- Settles O49: each reading of the decoder refuses what fails its own check. -/
theorem foreignSymbolsAreRefused : Obligations.ForeignSymbolsAreRefused := by
  refine fun p f b => ⟨fun hb => ?_, fun hb => ?_, fun hb => ?_⟩
  · rw [decodeSymbol_command, commandOf_eq_none_iff.mpr hb, Option.elim_none]
  · rw [decodeSymbol_data_literals, if_neg hb]
  · have hn : ¬isPacked b = true := by simpa [isPacked] using hb
    rw [decodeSymbol_data_pixelStream, if_neg hn]

/-- Settles O50: each word is a closed one, read with the default parameters. -/
theorem writtenWordsDecode : Obligations.WrittenWordsDecode := by
  unfold Obligations.WrittenWordsDecode
  decide

end Sys2Proof.Machine
end

section
/-!
SUPPORT. The update (40_update.md): each step form as one equation of answers inside an update, where the forms stop,
the step list and the step that runs it, and the statements of the family settled from these.
-/

namespace Sys2Proof.Machine

variable {s : State} {n : Fin 48}

/-! ### Each step form, as one equation -/

theorem State.duringUpdate_idle (hp : s.pc = .idle) (a : Answer) : s.duringUpdate a = .fault .noUpdateInFlight :=
  if_pos hp

theorem State.duringUpdate_ne_idle (hp : s.pc ≠ .idle) (a : Answer) : s.duringUpdate a = a := if_neg hp

theorem State.withSession_open (ho : s.sessionOpen = true) (t : State) : s.withSession t = .next t := if_pos ho

theorem State.withSession_closed (ho : s.sessionOpen = false) (t : State) :
    s.withSession t = .fault .sessionNotOpen := by
  rw [State.withSession, ho]
  rfl

/-- Every form but UPDATE answers as a step form does: only inside an update (R71). -/
theorem exec_eq_duringUpdate {i : Instr} (hi : ∀ bm, i ≠ .update bm) (s : State) :
    ∃ a, exec i s = s.duringUpdate a := by
  cases i
  case update bm => exact absurd rfl (hi bm)
  all_goals exact ⟨_, rfl⟩

theorem exec_update (hp : s.pc = .idle) (bm : Memory) :
    exec (.update bm) s = .next { s with bm := bm, pc := .step 0 } := by
  have h : exec (.update bm) s = execUpdate bm s := rfl
  rw [h, execUpdate, if_pos hp]
  rfl

theorem exec_check (hp : s.pc = .step n) (len : Nat) :
    exec (.check len) s =
      .next
        (if len = Config.N then { s with err := none }.advance
         else
          ({ s with err := some .invalidDimensions }.emit (.log .error .invalidDimensions)).goto (.step 47)) :=
  State.duringUpdate_step hp _

theorem exec_line (hp : s.pc = .step n) (l : Line) (v : Level) :
    exec (.line l v) s = .next (s.drive l v).advance :=
  State.duringUpdate_step hp _

theorem exec_delay (hp : s.pc = .step n) (ms : Nat) : exec (.delay ms) s = .next (s.emit (.delay ms)).advance :=
  State.duringUpdate_step hp _

theorem exec_openTransport (hp : s.pc = .step n) (ho : s.sessionOpen = false) (mode hz : Nat) :
    exec (.openTransport mode hz) s =
      .next (((s.takeTransport.emit (.openTransport mode hz s.transportAnswer)).setSession
        (s.transportAnswer == .ok)).settle s.transportAnswer) := by
  have h : exec (.openTransport mode hz) s = execOpenTransport mode hz s := rfl
  rw [h, execOpenTransport, State.duringUpdate_step hp, ho]
  rfl

theorem exec_wait (hp : s.pc = .step n) (ms : Nat) (policy : WaitPolicy) :
    exec (.wait ms policy) s =
      .next ((s.takeWait.emit (.wait ms s.waitAnswer)).settleWait s.waitAnswer policy) :=
  State.duringUpdate_step hp _

theorem State.transferStep_open (hp : s.pc = .step n) (ho : s.sessionOpen = true) (k : Select) (b : Byte) :
    s.transferStep k b = .next ((s.sent k b).settle s.transportAnswer) := by
  rw [State.transferStep, State.duringUpdate_step hp, State.withSession_open ho, State.transfer_eq]

theorem exec_pixelByte (hp : s.pc = .step n) (ho : s.sessionOpen = true) (a b : PixelCode) :
    exec (.pixelByte a b) s = .next ((s.sent .data (packCodes a b)).settlePixel s.transportAnswer) := by
  have h : exec (.pixelByte a b) s = execPixelByte a b s := rfl
  rw [h, execPixelByte, State.duringUpdate_step hp, State.withSession_open ho, State.transfer_eq]

theorem exec_closeTransport (hp : s.pc = .step n) (ho : s.sessionOpen = true) :
    exec .closeTransport s =
      .next (((s.takeTransport.emit (.closeTransport s.transportAnswer)).setSession false).settle
        s.transportAnswer) := by
  have h : exec .closeTransport s = execCloseTransport s := rfl
  rw [h, execCloseTransport, State.duringUpdate_step hp, State.withSession_open ho]

theorem exec_ret (hp : s.pc = .step n) : exec .ret s = .next ((s.emit (.ret s.result)).goto .idle) :=
  State.duringUpdate_step hp _

/-! ### Where the forms stop -/

theorem State.transferStep_closed (hp : s.pc ≠ .idle) (ho : s.sessionOpen = false) (k : Select) (b : Byte) :
    s.transferStep k b = .fault .sessionNotOpen := by
  rw [State.transferStep, State.duringUpdate_ne_idle hp, State.withSession_closed ho]

theorem exec_pixelByte_closed (hp : s.pc ≠ .idle) (ho : s.sessionOpen = false) (a b : PixelCode) :
    exec (.pixelByte a b) s = .fault .sessionNotOpen := by
  have h : exec (.pixelByte a b) s = execPixelByte a b s := rfl
  rw [h, execPixelByte, State.duringUpdate_ne_idle hp, State.withSession_closed ho]

theorem State.pixelPass_of_codePair {a b : PixelCode} (hc : s.codePair s.idx = .ok (a, b)) :
    s.pixelPass = exec (.pixelByte a b) s := by
  rw [State.pixelPass, hc]
  rfl

/-- A loop whose first pass stops has stopped. -/
theorem pixelLoop_fault {f : Fault} (k : Nat) (h : s.pixelPass = .fault f) : pixelLoop (k + 1) s = .fault f := by
  rw [pixelLoop, h]

theorem exec_pixels_closed {a b : PixelCode} (hp : s.pc ≠ .idle) (ho : s.sessionOpen = false)
    (hc : s.codePair 0 = .ok (a, b)) : exec .pixels s = .fault .sessionNotOpen := by
  have h : exec .pixels s = s.duringUpdate (pixelLoop (122879 + 1) { s with idx := 0 }) := rfl
  have hpass : State.pixelPass { s with idx := 0 } = .fault .sessionNotOpen :=
    (State.pixelPass_of_codePair (s := { s with idx := 0 }) hc).trans
      (exec_pixelByte_closed (s := { s with idx := 0 }) hp ho a b)
  rw [h, State.duringUpdate_ne_idle hp, pixelLoop_fault _ hpass]

/-! ### The step list -/

theorem flipLevel_eq (v : Level) : flipLevel v = if v = .low then .high else .low := by cases v <;> rfl

theorem stepList_length (p : Params) (len : Nat) : (stepList p len).length = 48 := rfl

theorem stepList_getElem? (p : Params) (len : Nat) (n : Fin 48) :
    (stepList p len)[n.val]? = some (listing p len n) := by
  rw [listing, List.getD_eq_getElem?_getD, List.getElem?_eq_getElem (by rw [stepList_length]; exact n.isLt)]
  rfl

theorem step_idle_nil (hp : s.pc = .idle) (hr : s.requests = []) : step s = .next s := by
  simp only [step, State.fetch, hp, hr]

theorem step_idle_cons {bm : Memory} {rest : List Memory} (hp : s.pc = .idle) (hr : s.requests = bm :: rest) :
    step s = exec (.update bm) { s with requests := rest } := by
  simp only [step, State.fetch, hp, hr]

theorem step_pixel {a b : PixelCode} (hp : s.pc = .step 36) (hi : s.idx < Config.NB)
    (hc : s.codePair s.idx = .ok (a, b)) : step s = exec (.pixelByte a b) s := by
  simp only [step, State.fetch, hp, if_pos, State.fetchPixel, hi, hc]

theorem step_pixels_done (hp : s.pc = .step 36) (hi : Config.NB ≤ s.idx) : step s = .next s.advance := by
  simp only [step, State.fetch, hp, if_pos, State.fetchPixel, if_neg (Nat.not_lt.mpr hi)]

/-! ### Placing a symbol -/

/-- A form that is in the list, other than a pixel byte, is placed at a step that lists it. -/
theorem State.exists_place_eq {i : Instr} (s : State) (hi : i ∈ stepList s.params s.bm.length)
    (hpix : ∀ a b, i ≠ .pixelByte a b) :
    ∃ n : Fin 48, listing s.params s.bm.length n = i ∧ s.place i = { s with pc := .step n, sessionOpen := true } := by
  cases hf : (stepList s.params s.bm.length).findIdx? (fun k => k == i) with
  | none => exact absurd (List.findIdx?_eq_none_iff.mp hf i hi) (by simp)
  | some n =>
    obtain ⟨hlt, he, -⟩ := List.findIdx?_eq_some_iff_getElem.mp hf
    have hn : n < 48 := hlt
    have hl := stepList_getElem? s.params s.bm.length ⟨n, hn⟩
    rw [List.getElem?_eq_getElem hlt, Option.some.injEq, eq_of_beq he] at hl
    refine ⟨⟨n, hn⟩, hl.symm, ?_⟩
    cases i
    case pixelByte a b => exact absurd rfl (hpix a b)
    all_goals simp only [State.place, hf, hn, dif_pos]

/-- The code of a pixel, against the prior pixel that is placed for it. -/
theorem code1_priorPixel (c : PixelCode) : code1 c.isBlack (some (priorPixel c)) = c := by cases c <;> rfl

theorem State.place_codePair (s : State) (a b : PixelCode) :
    (s.place (.pixelByte a b)).codePair 0 = .ok (a, b) := by
  have ha : (s.place (.pixelByte a b)).codeAt (2 * 0) = .ok (code1 a.isBlack (some (priorPixel a))) := rfl
  have hb : (s.place (.pixelByte a b)).codeAt (2 * 0 + 1) = .ok (code1 b.isBlack (some (priorPixel b))) := rfl
  rw [State.codePair, ha, hb, code1_priorPixel, code1_priorPixel]

theorem step_place_pixelByte (s : State) (a b : PixelCode) :
    step (s.place (.pixelByte a b)) = exec (.pixelByte a b) (s.place (.pixelByte a b)) :=
  step_pixel rfl (by decide : 0 < Config.NB) (State.place_codePair s a b)

theorem step_place_of_mem {i : Instr} (s : State) (hi : i ∈ stepList s.params s.bm.length)
    (hpix : ∀ a b, i ≠ .pixelByte a b) (h36 : i ≠ .pixels) : step (s.place i) = exec i (s.place i) := by
  obtain ⟨n, hl, hs⟩ := s.exists_place_eq hi hpix
  have hn : n ≠ 36 := by
    rintro rfl
    exact h36 hl.symm
  rw [hs, step_listing (n := n) rfl hn, hl]

/-- The entries of the list that do not depend on its arguments: S08 to S47. -/
theorem mem_stepList_of_mem_fixed {i : Instr} (p : Params) (len : Nat)
    (h : i ∈ stepsInit ++ stepsTransmission ++ stepsPowerDown) : i ∈ stepList p len := by
  rw [stepList, List.append_assoc, List.append_assoc, ← List.append_assoc stepsInit]
  exact List.mem_append_right _ h

theorem commandSymbols_mem_stepList {i : Instr} (p : Params) (len : Nat) (hi : i ∈ commandSymbols) :
    i ∈ stepList p len := by
  have h : ∀ j ∈ commandSymbols, j ∈ stepsInit ++ stepsTransmission ++ stepsPowerDown := by decide
  exact mem_stepList_of_mem_fixed p len (h i hi)

theorem dataByte_mem_stepList {d : Byte} (p : Params) (len : Nat) (hd : d ∈ literalBytes) :
    .dataByte d ∈ stepList p len := by
  have h : ∀ b ∈ literalBytes, Instr.dataByte b ∈ stepsInit ++ stepsTransmission ++ stepsPowerDown := by decide
  exact mem_stepList_of_mem_fixed p len (h d hd)

/-- What is read from a word is a command, a literal of a frame, or a pixel byte. -/
theorem decodeTableWord_cases {nbits w : Nat} {i : Instr} (h : decodeTableWord nbits w = some i) :
    i ∈ commandSymbols ∨ (∃ d ∈ literalBytes, i = .dataByte d) ∨ ∃ a b, i = .pixelByte a b := by
  unfold decodeTableWord at h
  split at h
  · cases h
  · split at h
    · cases h
    · split at h
      next hd =>
        obtain rfl := Option.some.inj h
        obtain ⟨he, hwf⟩ := everySymbolReadIsEncoded _ _ _ _ hd
        rcases encode_eq_some_iff.mp he with ⟨b, hb, -⟩ | ⟨d, rfl, -⟩ | ⟨a, b, rfl, -⟩
        · exact .inl (Instr.mem_commandSymbols hb)
        · exact .inr (.inl ⟨d, List.contains_iff_mem.mp hwf, rfl⟩)
        · exact .inr (.inr ⟨a, b, rfl⟩)
      · cases h

/-! ### The statements of tier 1 -/

/-- Settles O12: in IDLE by the guard that every form but UPDATE has, otherwise by the guard on the session. -/
theorem excludedContextsStop : Obligations.ExcludedContextsStop := by
  refine ⟨fun i s hp hi => ?_, fun s k b hp ho => ?_, fun i s k b hp ho hi => ?_,
    fun s a b hp ho => exec_pixelByte_closed hp ho a b, fun s a b hp ho hc => exec_pixels_closed hp ho hc,
    fun s mode hz hp ho => ?_⟩
  · obtain ⟨a, ha⟩ := exec_eq_duringUpdate hi s
    rw [ha, State.duringUpdate_idle hp]
  · have hstop (t : State) : s.duringUpdate (s.withSession t) = .fault .sessionNotOpen := by
      rw [State.duringUpdate_ne_idle hp, State.withSession_closed ho]
    exact ⟨hstop _, hstop _, hstop _, hstop _, hstop _⟩
  · rw [exec_sentSymbol hi, State.transferStep_closed hp ho]
  · have h : exec (.openTransport mode hz) s = execOpenTransport mode hz s := rfl
    rw [h, execOpenTransport, State.duringUpdate_ne_idle hp, if_pos ho]

/-- Settles O13: UPDATE asks for IDLE. -/
theorem updateAcceptedOnlyInIdle : Obligations.UpdateAcceptedOnlyInIdle :=
  ⟨fun _ bm hp => exec_update hp bm, fun _ _ hp => if_neg hp⟩

/-- Settles O14, by whether the length is the right one. -/
theorem checkComparesTheLength : Obligations.CheckComparesTheLength := by
  intro s len hp
  rw [exec_check hp]
  by_cases hl : len = 245760
  · have ha : { s with err := none }.advance = { s with err := none }.toStep 1 :=
      State.advance_eq (n := 0) hp rfl
    rw [if_pos hl, if_pos hl, ha]
    rfl
  · rw [if_neg hl, if_neg hl]
    rfl

/-- Settles O16: the return event, then IDLE. -/
theorem retReturnsTheResult : Obligations.RetReturnsTheResult := fun _ _ hp => exec_ret hp

/-- Settles O17: with no request there is nothing to run. -/
theorem idleChangesNothing : Obligations.IdleChangesNothing := fun _ => step_idle_nil

/-- Settles O42: the two levels of the pulse and the four bytes of the resolution, written out. -/
theorem stepListIsTheDocuments : Obligations.StepListIsTheDocuments := by
  intro p len a na
  have hna : flipLevel p.rstActiveLevel = na := flipLevel_eq _
  rw [← hna]
  rfl

/-- Settles O43: the four things the sequencer can run next. -/
theorem stepRunsTheListedInstruction : Obligations.StepRunsTheListedInstruction := by
  refine ⟨fun s n i hp hn hi => ?_, fun s a b => step_pixel, fun s hp hi => ?_,
    fun s bm rest => step_idle_cons⟩
  · rw [stepList_getElem?] at hi
    rw [step_listing hp hn, Option.some.inj hi]
  · rw [step_pixels_done hp hi, State.advance_eq (m := 37) hp rfl]
    rfl

/-- Settles O51: a pixel byte is placed with stores that have its codes, any other symbol at a step that lists it. -/
theorem stepRunsThePlacedSymbol : Obligations.StepRunsThePlacedSymbol := by
  intro s nbits w i h
  have hw : s.withFetchWord nbits w = s.place i := by rw [State.withFetchWord, h]
  rw [hw]
  rcases decodeTableWord_cases h with hi | ⟨d, hd, rfl⟩ | ⟨a, b, rfl⟩
  · have hforms : ∀ j ∈ commandSymbols, j.frame = .literals ∧ j ≠ .pixels := by decide
    obtain ⟨hframe, h36⟩ := hforms i hi
    refine step_place_of_mem s (commandSymbols_mem_stepList _ _ hi) (fun a b hab => ?_) h36
    rw [hab] at hframe
    cases hframe
  · exact step_place_of_mem s (dataByte_mem_stepList _ _ hd) (fun a b => nofun) nofun
  · exact step_place_pixelByte s a b

end Sys2Proof.Machine
end

section
/-!
SUPPORT. Control flow (40_update.md R69): the encoder's reads succeed under the invariant, where control goes from each
step, and the end of every update (R70).
-/

namespace Sys2Proof.Machine

variable {s t u : State} {n m : Fin 48}

/-! ### The reads of the encoder -/

/-- The code of a pixel inside both stores; the Frame State is read only when it is valid (R120, R33). -/
theorem State.codeAt_eq {i : Nat} (hb : s.bm.wf) (hf : s.FrameInv) (hi : i < Config.N) :
    s.codeAt i = .ok (code1 (s.bm.getD i false) (s.prevFrame.map (fun m => m.getD i false))) := by
  have hread {m : Memory} (hm : m.wf) : m.read i = some (m.getD i false) := by
    rw [Memory.read_lt (hm ▸ hi), List.getD_eq_getElem]
  cases hv : s.fsValid with
  | false => simp only [State.codeAt, hread hb, State.code, State.prevFrame, hv]; rfl
  | true => simp only [State.codeAt, hread hb, State.code, State.prevFrame, hv, hread (hf hv)]; rfl

/-- The two codes of a byte of the stream, and that they pack to it (R101, R123). -/
theorem State.exists_codePair_eq {k : Nat} (hb : s.bm.wf) (hf : s.FrameInv) (hk : k < Config.NB) :
    ∃ a b, s.codePair k = .ok (a, b) ∧ packCodes a b = packedByte s.prevFrame s.bm k := by
  have h0 : 2 * k < Config.N := by simp only [Config.N, Config.NB] at *; omega
  have h1 : 2 * k + 1 < Config.N := by simp only [Config.N, Config.NB] at *; omega
  refine ⟨_, _, ?_, rfl⟩
  rw [State.codePair, State.codeAt_eq hb hf h0, State.codeAt_eq hb hf h1]

/-! ### What the invariant says at a step -/

theorem State.Inv.sessionOpen_true (h : s.Inv) (hp : s.pc = .step n) (h8 : 8 ≤ n.val) (h44 : n.val ≤ 44) :
    s.sessionOpen = true := by
  rw [State.sessionInv_iff.mp h.session, hp]
  exact Pc.step_inSession h8 h44

theorem State.Inv.sessionOpen_false (h : s.Inv) (hp : s.pc = .step n) (hn : n.val < 8 ∨ 44 < n.val) :
    s.sessionOpen = false := by
  rw [State.sessionInv_iff.mp h.session, hp]
  exact decide_eq_false (by omega)

theorem State.Inv.err_none (h : s.Inv) (hp : s.pc = .step n) (h1 : 1 ≤ n.val) (h39 : n.val ≤ 39) :
    s.err = none := by
  have he := h.error
  rw [State.ErrorInv, hp] at he
  exact he h1 h39

theorem State.Inv.bm_wf (h : s.Inv) (hp : s.pc = .step n) (h1 : 1 ≤ n.val) (h46 : n.val ≤ 46) : s.bm.wf := by
  have hb := h.bitmap
  rw [State.BitmapInv, hp] at hb
  exact hb h1 h46

theorem State.errorInv_of_none (h : t.err = none) : t.ErrorInv := by
  unfold State.ErrorInv
  cases t.pc with
  | idle => trivial
  | step m => exact fun _ _ => h

theorem State.errorInv_of_late (hp : t.pc = .step m) (hm : 40 ≤ m.val) : t.ErrorInv := by
  rw [State.ErrorInv, hp]
  exact fun _ h39 => absurd hm (by omega)

/-! ### Where control goes -/

/-- The step counter after step `n` of the state `s`, by the outcome drawn there (R69). -/
def State.nextPc (s : State) (n : Fin 48) : Pc :=
  if n = 0 then if s.bm.length = Config.N then .step 1 else .step 47
  else if n = 7 then if s.transportAnswer = .ok then .step 8 else .step 45
  else if n = 19 then if s.waitAnswer = .cleared then .step 20 else .step 40
  else if n = 36 then
    if s.transportAnswer = .ok then if s.idx + 1 < Config.NB then .step 36 else .step 37 else .step 40
  else if 8 ≤ n.val ∧ n.val ≤ 37 ∧ s.transportAnswer = .fail then .step 40
  else (Pc.step n).next

/-- Step `n` of `s` leaves in `t` the step counter listed, `idx` counted at S36 and 0 on entering it, and no error
latched before power-down. -/
structure State.Flows (s : State) (n : Fin 48) (t : State) : Prop where
  pc : t.pc = s.nextPc n
  idx : t.pc = .step 36 → t.idx = if n = 36 then s.idx + 1 else 0
  error : t.ErrorInv

/-- The steps from which control always goes to the next one. -/
theorem State.nextPc_of_always (s : State) (h0 : n ≠ 0)
    (h : n.val < 7 ∨ 38 ≤ n.val) : s.nextPc n = (Pc.step n).next := by
  have h7 : n ≠ 7 := by rintro rfl; omega
  have h19 : n ≠ 19 := by rintro rfl; omega
  have h36 : n ≠ 36 := by rintro rfl; omega
  rw [State.nextPc, if_neg h0, if_neg h7, if_neg h19, if_neg h36, if_neg (by omega)]

/-- The steps that send one symbol, before the power-down sequence. -/
theorem State.nextPc_of_transfer (s : State) (h8 : 8 ≤ n.val) (h37 : n.val ≤ 37) (h19 : n ≠ 19) (h36 : n ≠ 36) :
    s.nextPc n = if s.transportAnswer = .ok then (Pc.step n).next else .step 40 := by
  have h0 : n ≠ 0 := by rintro rfl; contradiction
  have h7 : n ≠ 7 := by rintro rfl; contradiction
  rw [State.nextPc, if_neg h0, if_neg h7, if_neg h19, if_neg h36]
  cases s.transportAnswer <;> simp [h8, h37]

/-- Control goes on to the next step, with no error latched, or inside power-down. -/
theorem State.Flows.of_advance (hu : u.pc = .step n) (h36 : n ≠ 36) (he : u.err = none ∨ 39 ≤ n.val)
    (hn : s.nextPc n = (Pc.step n).next) : s.Flows n u.advance where
  pc := by rw [State.advance_pc, hu, hn]
  idx h := by rw [State.advance_pc] at h; rw [State.advance_idx, if_pos h, if_neg h36]
  error := by
    rcases he with he | h39
    · exact State.errorInv_of_none he
    · by_cases h47 : n.val + 1 < 48
      · have hm : (⟨n.val + 1, h47⟩ : Fin 48).val = n.val + 1 := rfl
        exact State.errorInv_of_late (by rw [State.advance_pc, hu, Pc.next_step hm]) (by omega)
      · unfold State.ErrorInv
        rw [State.advance_pc, hu, Pc.next, dif_neg h47]
        trivial

/-- Control goes to a step of the power-down sequence. -/
theorem State.Flows.of_toStep (hm : 40 ≤ m.val) (hn : s.nextPc n = .step m) : s.Flows n (u.toStep m) where
  pc := hn.symm
  idx h := by
    obtain rfl := Pc.step.inj h
    exact absurd hm (by decide)
  error := State.errorInv_of_late rfl hm

/-- The end of a step that sends one symbol. -/
theorem State.Flows.of_settle (hu : u.pc = .step n) (he : u.err = none ∨ 39 ≤ n.val) (h8 : 8 ≤ n.val)
    (h19 : n ≠ 19) (h36 : n ≠ 36) (h39 : n.val ≤ 37 ∨ 40 ≤ n.val) (h47 : n.val < 47) :
    s.Flows n (u.settle s.transportAnswer) := by
  have h0 : n ≠ 0 := by rintro rfl; contradiction
  have h7 : n ≠ 7 := by rintro rfl; contradiction
  by_cases h40 : 40 ≤ n.val
  · have hn := s.nextPc_of_always h0 (.inr (by omega))
    cases s.transportAnswer with
    | ok => exact .of_advance hu h36 (.inr (by omega)) hn
    | fail =>
      have hm : (⟨n.val + 1, by omega⟩ : Fin 48).val = n.val + 1 := rfl
      rw [State.settle, State.signal_latch hu h40 hm]
      exact .of_toStep (by omega) (hn.trans (Pc.next_step hm))
  · have hn := s.nextPc_of_transfer h8 (by omega) h19 h36
    cases hr : s.transportAnswer with
    | ok => exact .of_advance hu h36 he (by rw [hn, hr, if_pos rfl])
    | fail =>
      rw [State.settle, State.signal_raise hu (by omega) h7]
      exact .of_toStep (by decide) (by rw [hn, hr]; rfl)

theorem check_flows (hp : s.pc = .step 0) :
    ∃ t, exec (.check s.bm.length) s = .next t ∧ s.Flows 0 t := by
  refine ⟨_, exec_check hp _, ?_⟩
  by_cases hl : s.bm.length = Config.N
  · rw [if_pos hl]
    exact
      { pc := by rw [State.advance_pc, hp, State.nextPc, if_pos rfl, if_pos hl]; rfl
        idx := fun h => by rw [State.advance_pc, hp] at h; contradiction
        error := State.errorInv_of_none rfl }
  · rw [if_neg hl]
    exact .of_toStep (m := 47) (u := { s with err := some .invalidDimensions }.emit _) (by decide)
      (by rw [State.nextPc, if_pos rfl, if_neg hl])

theorem openTransport_flows (hs : s.Inv) (hp : s.pc = .step 7) (mode hz : Nat) :
    ∃ t, exec (.openTransport mode hz) s = .next t ∧ s.Flows 7 t := by
  refine ⟨_, exec_openTransport hp (hs.sessionOpen_false hp (.inl (by decide))) mode hz, ?_⟩
  have hu : ((s.takeTransport.emit (.openTransport mode hz s.transportAnswer)).setSession
      (s.transportAnswer == .ok)).pc = .step 7 := hp
  cases hr : s.transportAnswer with
  | ok =>
    rw [hr] at hu
    exact
      { pc := by rw [State.settle_pc_of_open hu, State.nextPc, hr]; rfl
        idx := fun h => by rw [State.settle_pc_of_open hu] at h; contradiction
        error := State.errorInv_of_none (hs.err_none hp (by decide) (by decide)) }
  | fail =>
    rw [hr] at hu
    rw [State.settle, State.signal_raise_open hu]
    exact .of_toStep (by decide) (by rw [State.nextPc, hr]; rfl)

/-- The wait of S19: a time-out is raised (R139, R157). -/
theorem initWait_flows (hs : s.Inv) (hp : s.pc = .step 19) (ms : Nat) (e : ErrorKind) :
    ∃ t, exec (.wait ms (.fatal e)) s = .next t ∧ s.Flows 19 t := by
  refine ⟨_, exec_wait hp ms _, ?_⟩
  have hu : (s.takeWait.emit (.wait ms s.waitAnswer)).pc = .step 19 := hp
  cases hr : s.waitAnswer with
  | cleared =>
    exact .of_advance hp (by decide) (.inl (hs.err_none hp (by decide) (by decide))) (by rw [State.nextPc, hr]; rfl)
  | timedOut =>
    rw [hr] at hu
    rw [State.settleWait, State.signal_raise hu (by decide) (by decide)]
    exact .of_toStep (by decide) (by rw [State.nextPc, hr]; rfl)

/-- A wait of the list whose time-out is a warning: the next step, in both cases (R139). -/
theorem warnWait_flows (hs : s.Inv) (hp : s.pc = .step n) (h38 : 38 ≤ n.val) (ms : Nat) (w : Warning) :
    ∃ t, exec (.wait ms (.warn w)) s = .next t ∧ s.Flows n t := by
  refine ⟨_, exec_wait hp ms _, ?_⟩
  have h36 : n ≠ 36 := by rintro rfl; contradiction
  have hn := s.nextPc_of_always (by rintro rfl; contradiction) (.inr h38)
  have he : s.err = none ∨ 39 ≤ n.val := by
    by_cases h39 : 39 ≤ n.val
    · exact .inr h39
    · exact .inl (hs.err_none hp (by omega) (by omega))
  cases s.waitAnswer with
  | cleared => exact .of_advance hp h36 he hn
  | timedOut => exact .of_advance hp h36 he hn

/-- The end of a pass of the loop whose write succeeded (R102, R15, R16). -/
theorem State.settlePixel_ok (hp : s.pc = .step 36) :
    s.settlePixel .ok =
      { s with pc := if s.idx + 1 < Config.NB then .step 36 else .step 37, idx := s.idx + 1 } := by
  by_cases hl : s.idx + 1 < Config.NB
  · simp only [State.settlePixel, if_pos hl, ← hp]
  · have ha : { s with idx := s.idx + 1 }.advance = { s with idx := s.idx + 1 }.toStep 37 :=
      State.advance_eq (n := 36) hp rfl
    simp only [State.settlePixel, if_neg hl, ha]
    rfl

/-- One pass of the loop of S36 (R102). -/
theorem pixel_flows (hs : s.Inv) (hp : s.pc = .step 36) :
    ∃ t, step s = .next t ∧ s.Flows 36 t ∧ t.bm = s.bm := by
  have hi : s.idx < Config.NB := hs.index hp
  have he : s.err = none := hs.err_none hp (by decide) (by decide)
  obtain ⟨a, b, hc, -⟩ := State.exists_codePair_eq (hs.bm_wf hp (by decide) (by decide))
    (State.frameInv_of_wf hs.store) hi
  have hstep := (step_pixel hp hi hc).trans (exec_pixelByte hp (hs.sessionOpen_true hp (by decide) (by decide)) a b)
  refine ⟨_, hstep, ?_, (exec_keeps ((step_pixel hp hi hc).symm.trans hstep)).bm⟩
  have hu : (s.sent .data (packCodes a b)).pc = .step 36 := hp
  cases hr : s.transportAnswer with
  | ok =>
    rw [State.settlePixel_ok hu]
    exact
      { pc := by rw [State.nextPc, hr]; rfl
        idx := fun _ => rfl
        error := State.errorInv_of_none he }
  | fail =>
    rw [State.settlePixel, State.signal_raise hu (by decide) (by decide)]
    exact .of_toStep (by decide) (by rw [State.nextPc, hr]; rfl)

/-- The entry of the list at a step other than S36 runs to its end, and control goes where it is listed. -/
theorem listing_flows (hs : s.Inv) (hp : s.pc = .step n) (hn : n ≠ 36) :
    ∃ t, exec (listing s.params s.bm.length n) s = .next t ∧ s.Flows n t := by
  rcases listing_cases s.params s.bm.length n hn with
    ⟨rfl, hl⟩ | ⟨h1, h5, v, hl, -⟩ | ⟨h2, h6, -, ms, hl⟩ | ⟨rfl, hl⟩ | ⟨h8, h43, h19, h38, h39, h41, k, b, hl⟩ |
    ⟨rfl, hl⟩ | ⟨rfl, hl⟩ | ⟨rfl, hl⟩ | ⟨rfl, hl⟩ | ⟨rfl, hl⟩ | ⟨rfl, hl⟩ | ⟨rfl, hl⟩ | ⟨rfl, hl⟩
  case inr.inr.inr.inr.inl =>
    refine ⟨_, (exec_sentSymbol hl).trans (State.transferStep_open hp (hs.sessionOpen_true hp h8 (by omega)) k b),
      .of_settle hp ?_ h8 (by rintro rfl; contradiction) hn (by omega) (by omega)⟩
    by_cases h40 : 39 ≤ n.val
    · exact .inr h40
    · exact .inl (hs.err_none hp (by omega) (by omega))
  all_goals rw [hl]
  · exact check_flows hp
  · exact ⟨_, exec_line hp _ _, .of_advance (by rw [State.drive_pc, hp]) hn
      (.inl (by rw [State.drive_err, hs.err_none hp h1 (by omega)]))
      (s.nextPc_of_always (by rintro rfl; contradiction) (.inl (by omega)))⟩
  · exact ⟨_, exec_delay hp _, .of_advance hp hn (.inl (hs.err_none hp (by omega) (by omega)))
      (s.nextPc_of_always (by rintro rfl; contradiction) (.inl (by omega)))⟩
  · exact openTransport_flows hs hp _ _
  · exact initWait_flows hs hp _ _
  · exact warnWait_flows hs hp (by decide) _ _
  · exact ⟨_, exec_commit hp (hs.bm_wf hp (by decide) (by decide)), .of_advance hp hn (.inr (by decide))
      (s.nextPc_of_always (by decide) (.inr (by decide)))⟩
  · exact warnWait_flows hs hp (by decide) _ _
  · exact ⟨_, exec_closeTransport hp (hs.sessionOpen_true hp (by decide) (by decide)),
      .of_settle hp (.inr (by decide)) (by decide) (by decide) hn (.inr (by decide)) (by decide)⟩
  · exact ⟨_, exec_line hp _ _, .of_advance hp hn (.inr (by decide))
      (s.nextPc_of_always (by decide) (.inr (by decide)))⟩
  · exact ⟨_, exec_line hp _ _, .of_advance hp hn (.inr (by decide))
      (s.nextPc_of_always (by decide) (.inr (by decide)))⟩
  · exact ⟨_, exec_ret hp, { pc := rfl, idx := nofun, error := trivial }⟩

/-- An entry of the list is no UPDATE. -/
theorem listing_ne_update (p : Params) (len : Nat) (n : Fin 48) (bm : Memory) : listing p len n ≠ .update bm := by
  intro h
  have hm : Instr.update bm ∈ stepList p len := by
    rw [← h]
    exact List.mem_of_getElem? (stepList_getElem? p len n)
  simp [stepList, stepsOpening, stepsInit, stepsTransmission, stepsPowerDown] at hm

/-- From every step of a state that meets the invariant, a step answers, control goes where it is listed, and the
bitmap in flight is kept. -/
theorem step_flows (hs : s.Inv) (hp : s.pc = .step n) : ∃ t, step s = .next t ∧ s.Flows n t ∧ t.bm = s.bm := by
  by_cases hn : n = 36
  · subst hn
    exact pixel_flows hs hp
  · obtain ⟨t, ht, hf⟩ := listing_flows hs hp hn
    have hbm : t.bm = s.bm := (exec_keeps ht).bm.trans (s.written_bm (listing_ne_update _ _ n))
    exact ⟨t, (step_listing hp hn).trans ht, hf, hbm⟩

end Sys2Proof.Machine
end

section
/-!
SUPPORT. The invariant after a step, the steps left, and the statements on control flow (40_update.md R69, R70).
-/

namespace Sys2Proof.Machine

variable {s t : State} {n m : Fin 48}

/-! ### The cases of the next step counter -/

theorem State.nextPc_zero (s : State) : s.nextPc 0 = if s.bm.length = Config.N then .step 1 else .step 47 := rfl

theorem State.nextPc_open (s : State) : s.nextPc 7 = if s.transportAnswer = .ok then .step 8 else .step 45 := rfl

theorem State.nextPc_initWait (s : State) : s.nextPc 19 = if s.waitAnswer = .cleared then .step 20 else .step 40 :=
  rfl

theorem State.nextPc_pixels (s : State) :
    s.nextPc 36 =
      if s.transportAnswer = .ok then if s.idx + 1 < Config.NB then .step 36 else .step 37 else .step 40 := rfl

theorem State.nextPc_ret (s : State) : s.nextPc 47 = .idle := s.nextPc_of_always (by decide) (.inr (by decide))

/-- Control goes to the next step, stays in the loop of S36, goes to the power-down sequence, or ends the update. -/
theorem State.nextPc_cases (s : State) (n : Fin 48) :
    (∃ m : Fin 48, m.val = n.val + 1 ∧ s.nextPc n = .step m) ∨
    (n = 36 ∧ s.idx + 1 < Config.NB ∧ s.nextPc n = .step 36) ∨
    (∃ m : Fin 48, n.val ≤ 37 ∧ 40 ≤ m.val ∧ s.nextPc n = .step m) ∨
    (n = 47 ∧ s.nextPc n = .idle) := by
  by_cases h0 : n = 0
  · subst h0
    rw [s.nextPc_zero]
    split
    · exact .inl ⟨1, rfl, rfl⟩
    · exact .inr (.inr (.inl ⟨47, by decide, by decide, rfl⟩))
  by_cases h7 : n = 7
  · subst h7
    rw [s.nextPc_open]
    split
    · exact .inl ⟨8, rfl, rfl⟩
    · exact .inr (.inr (.inl ⟨45, by decide, by decide, rfl⟩))
  by_cases h19 : n = 19
  · subst h19
    rw [s.nextPc_initWait]
    split
    · exact .inl ⟨20, rfl, rfl⟩
    · exact .inr (.inr (.inl ⟨40, by decide, by decide, rfl⟩))
  by_cases h36 : n = 36
  · subst h36
    rw [s.nextPc_pixels]
    split
    · split
      · exact .inr (.inl ⟨rfl, ‹_›, rfl⟩)
      · exact .inl ⟨37, rfl, rfl⟩
    · exact .inr (.inr (.inl ⟨40, by decide, by decide, rfl⟩))
  rw [State.nextPc, if_neg h0, if_neg h7, if_neg h19, if_neg h36]
  split
  · exact .inr (.inr (.inl ⟨40, by omega, by decide, rfl⟩))
  · by_cases h47 : n.val + 1 < 48
    · exact .inl ⟨⟨n.val + 1, h47⟩, rfl, Pc.next_step rfl⟩
    · exact .inr (.inr (.inr ⟨by omega, by rw [Pc.next, dif_neg h47]⟩))

/-- Only the return ends the update. -/
theorem State.nextPc_eq_idle_iff : s.nextPc n = .idle ↔ n = 47 := by
  constructor
  · intro h
    rcases s.nextPc_cases n with ⟨m, -, hm⟩ | ⟨-, -, hm⟩ | ⟨m, -, -, hm⟩ | ⟨hn, -⟩
    · rw [hm] at h; cases h
    · rw [hm] at h; cases h
    · rw [hm] at h; cases h
    · exact hn
  · rintro rfl
    exact s.nextPc_ret

/-! ### The invariant after a step -/

theorem step_keeps_fs_wf (h : step s = .next t) (hs : s.fs.wf) : t.fs.wf := by
  rcases step_cases h with ⟨-, rfl⟩ | ⟨-, bm, rest, -, h⟩ | ⟨-, a, b, -, -, h⟩ | ⟨-, -, rfl⟩ | ⟨n, -, -, h⟩
  · exact hs
  · exact exec_keeps_fs_wf h hs
  · exact exec_keeps_fs_wf h hs
  · exact hs
  · exact exec_keeps_fs_wf h hs

/-- Only an update whose bitmap passed the check goes on to S01, so the bitmap stays full until S47. -/
theorem State.Flows.bitmapInv (hf : s.Flows n t) (hs : s.Inv) (hp : s.pc = .step n) (hbm : t.bm = s.bm) :
    t.BitmapInv := by
  unfold State.BitmapInv
  rw [hf.pc, hbm]
  by_cases h0 : n = 0
  · subst h0
    rw [s.nextPc_zero]
    by_cases hl : s.bm.length = Config.N
    · rw [if_pos hl]
      exact fun _ _ => hl
    · rw [if_neg hl]
      exact fun _ h46 => absurd h46 (by decide)
  · by_cases h47 : n = 47
    · rw [State.nextPc_eq_idle_iff.mpr h47]
      trivial
    · have hwf : s.bm.wf := hs.bm_wf hp (by omega) (by omega)
      cases s.nextPc n with
      | idle => trivial
      | step m => exact fun _ _ => hwf

theorem State.Flows.indexInv (hf : s.Flows n t) : t.IndexInv := by
  intro ht
  rw [hf.idx ht]
  split
  next h36 =>
    subst h36
    have hn : s.nextPc 36 = .step 36 := hf.pc.symm.trans ht
    rcases s.nextPc_cases 36 with ⟨m, hm, hn'⟩ | ⟨-, hi, -⟩ | ⟨m, -, hm, hn'⟩ | ⟨h, -⟩
    · obtain rfl := Pc.step.inj (hn'.symm.trans hn)
      contradiction
    · exact hi
    · obtain rfl := Pc.step.inj (hn'.symm.trans hn)
      contradiction
    · contradiction
  next => decide

theorem State.Flows.inv (hf : s.Flows n t) (hs : s.Inv) (hp : s.pc = .step n) (hbm : t.bm = s.bm)
    (h : step s = .next t) : t.Inv where
  session := step_keeps_sessionInv h hs.session
  error := hf.error
  bitmap := hf.bitmapInv hs hp hbm
  index := hf.indexInv
  store := step_keeps_fs_wf h hs.store

/-! ### The steps left -/

theorem State.stepsLeft_step (hp : s.pc = .step n) :
    s.stepsLeft =
      if n.val < 36 then (48 - n.val) + Config.NB
      else if n.val = 36 then 12 + (Config.NB - s.idx)
      else 48 - n.val := by
  rw [State.stepsLeft, hp]

theorem State.stepsLeft_pixels (hp : s.pc = .step 36) : s.stepsLeft = 12 + (Config.NB - s.idx) := by
  rw [State.stepsLeft, hp]
  rfl

theorem State.stepsLeft_le (s : State) : s.stepsLeft ≤ Config.NB + 48 := by
  cases hp : s.pc with
  | idle => rw [State.stepsLeft, hp]; exact Nat.zero_le _
  | step n => rw [State.stepsLeft_step hp]; split_ifs <;> omega

/-- Every step brings the return nearer. -/
theorem State.Flows.stepsLeft_lt (hf : s.Flows n t) (hs : s.Inv) (hp : s.pc = .step n) : t.stepsLeft < s.stepsLeft := by
  have ht := hf.pc
  have hsl := State.stepsLeft_step hp
  rcases s.nextPc_cases n with ⟨m, hm, hn⟩ | ⟨rfl, hi, hn⟩ | ⟨m, h37, hm, hn⟩ | ⟨rfl, hn⟩ <;> rw [hn] at ht
  · rw [hsl, State.stepsLeft_step ht]
    have hidx : n = 36 → s.idx < Config.NB := fun h => hs.index (h ▸ hp)
    split_ifs <;> omega
  · have hidx : t.idx = s.idx + 1 := hf.idx ht
    rw [State.stepsLeft_pixels hp, State.stepsLeft_pixels ht, hidx]
    omega
  · rw [hsl, State.stepsLeft_step ht]
    split_ifs <;> omega
  · rw [hsl, State.stepsLeft, ht]
    exact Nat.zero_lt_one

/-! ### Every update ends -/

theorem step_ret (hp : s.pc = .step 47) : step s = .next ((s.emit (.ret s.result)).goto .idle) :=
  (step_listing hp (by decide)).trans (exec_ret hp)

/-- Inside an update the block returns, after at most the steps left, with the result formed from `err` as the last
event (R66, R70). -/
theorem exists_run_return (hs : s.Inv) (hp : s.pc ≠ .idle) :
    ∃ k t, k ≤ s.stepsLeft ∧ core.run k s = .next t ∧ t.pc = .idle ∧ t.Inv ∧
      ∃ es, t.trace = s.trace ++ es ++ [.ret t.result] := by
  induction hl : s.stepsLeft using Nat.strong_induction_on generalizing s with
  | _ l ih =>
    cases hn : s.pc with
    | idle => exact absurd hn hp
    | step n =>
      obtain ⟨u, hu, hf, hbm⟩ := step_flows hs hn
      have hlt := hf.stepsLeft_lt hs hn
      have hui := hf.inv hs hn hbm hu
      by_cases h47 : n = 47
      · subst h47
        obtain rfl := Host.Outcome.next.inj (hu.symm.trans (step_ret hn))
        exact ⟨1, _, by omega, run_succ 0 hu, rfl, hui, [], by simp [State.result]⟩
      · have hup : u.pc ≠ .idle := by
          rw [hf.pc]
          exact fun h => h47 (State.nextPc_eq_idle_iff.mp h)
        obtain ⟨k, t, hk, hrun, ht, hti, es, hes⟩ := ih _ (hl ▸ hlt) hui hup rfl
        obtain ⟨es₀, hes₀⟩ := step_trace_prefix hu
        refine ⟨k + 1, t, by omega, (run_succ k hu).trans hrun, ht, hti, es₀ ++ es, ?_⟩
        rw [hes, ← hes₀, List.append_assoc s.trace]

/-! ### The statements on control flow -/

/-- Settles O44, by the next step counter of each step. -/
theorem controlMovesAsListed : Obligations.ControlMovesAsListed := by
  intro s n hs hp
  obtain ⟨t, ht, hf, -⟩ := step_flows hs hp
  refine ⟨t, ht, ?_⟩
  rw [hf.pc]
  refine ⟨fun h => ?_, fun h => ?_, fun h => ?_, fun h => ?_, fun h8 h37 h19 h36 hr => ?_,
    fun h8 h37 h19 h36 hr m hm => ?_, fun h m hm => ?_, fun h => ?_⟩
  · obtain rfl : n = 0 := Fin.ext h
    exact s.nextPc_zero
  · obtain rfl : n = 7 := Fin.ext h
    exact s.nextPc_open
  · obtain rfl : n = 19 := Fin.ext h
    exact s.nextPc_initWait
  · obtain rfl : n = 36 := Fin.ext h
    exact s.nextPc_pixels
  · rw [s.nextPc_of_transfer h8 h37 (mt (congrArg Fin.val) h19) (mt (congrArg Fin.val) h36), hr, if_neg nofun]
  · rw [s.nextPc_of_transfer h8 h37 (mt (congrArg Fin.val) h19) (mt (congrArg Fin.val) h36), if_pos hr,
      Pc.next_step hm]
  · rw [s.nextPc_of_always (by rintro rfl; simp at h) (by omega), Pc.next_step hm]
  · obtain rfl : n = 47 := Fin.ext h
    exact s.nextPc_ret

/-- Settles O56: every step brings the return nearer, and the steps left are bounded. -/
theorem everyUpdateEnds : Obligations.EveryUpdateEnds := by
  intro s hs hp
  obtain ⟨k, t, hk, hrun, ht, hti, htrace⟩ := exists_run_return hs hp
  exact ⟨k, t, hk.trans s.stepsLeft_le, hrun, ht, hti, htrace⟩

end Sys2Proof.Machine
end

section
/-!
SUPPORT. The update without a failure (40_update.md R67, R72): runs in a row, the state after transfers that all
succeed, and the stream of S36.
-/

namespace Sys2Proof.Machine

variable {s t : State} {n m : Fin 48}

/-! ### Runs in a row -/

theorem run_add {j : Nat} (k : Nat) (h : core.run j s = .next t) : core.run (j + k) s = core.run k t := by
  induction j generalizing s with
  | zero =>
    obtain rfl := Host.Outcome.next.inj h
    rw [Nat.zero_add]
  | succ j ih =>
    rw [Nat.succ_add]
    cases hs : step s with
    | next u =>
      rw [run_succ _ hs] at h ⊢
      exact ih h
    | fault f =>
      have hc : core.step s = .fault f := hs
      simp [Host.Core.run, hc] at h
    | refused r =>
      have hc : core.step s = .refused r := hs
      simp [Host.Core.run, hc] at h

theorem run_one (h : step s = .next t) : core.run 1 s = .next t := run_succ 0 h

/-! ### Entries of the list that do not fail -/

theorem step_line {l : Line} {v : Level} (hp : s.pc = .step n) (hm : m.val = n.val + 1) (hn : n ≠ 36)
    (hl : listing s.params s.bm.length n = .line l v) : step s = .next ((s.drive l v).toStep m) := by
  have hq : (s.drive l v).pc = .step n := by rw [State.drive_pc, hp]
  rw [step_listing hp hn, hl, exec_line hp, State.advance_eq hq hm]

theorem step_delay {ms : Nat} (hp : s.pc = .step n) (hm : m.val = n.val + 1) (hn : n ≠ 36)
    (hl : listing s.params s.bm.length n = .delay ms) : step s = .next ((s.emit (.delay ms)).toStep m) := by
  have hq : (s.emit (.delay ms)).pc = .step n := hp
  rw [step_listing hp hn, hl, exec_delay hp, State.advance_eq hq hm]

theorem step_wait_cleared {ms : Nat} {policy : WaitPolicy} (hp : s.pc = .step n) (hm : m.val = n.val + 1)
    (hn : n ≠ 36) (hl : listing s.params s.bm.length n = .wait ms policy) (hw : s.waitAnswer = .cleared) :
    step s = .next ((s.takeWait.emit (.wait ms .cleared)).toStep m) := by
  have hq : (s.takeWait.emit (.wait ms .cleared)).pc = .step n := hp
  rw [step_listing hp hn, hl, exec_wait hp, hw, State.settleWait, State.advance_eq hq hm]

theorem step_commit (hp : s.pc = .step 39) (hb : s.bm.wf) : step s = .next ((s.storeFrame s.bm).toStep 40) := by
  have hq : (s.storeFrame s.bm).pc = .step 39 := hp
  have hl : listing s.params s.bm.length 39 = .commit := rfl
  rw [step_listing hp (by decide), hl, exec_commit hp hb, State.advance_eq (m := 40) hq rfl]

theorem step_open_ok (hp : s.pc = .step 7) (ho : s.sessionOpen = false) (hr : s.transportAnswer = .ok) :
    step s = .next (((s.takeTransport.emit (.openTransport 0 4000000 .ok)).setSession true).toStep 8) := by
  have hq : ((s.takeTransport.emit (.openTransport 0 4000000 .ok)).setSession true).pc = .step 7 := hp
  have hl : listing s.params s.bm.length 7 = .openTransport 0 4000000 := rfl
  rw [step_listing hp (by decide), hl, exec_openTransport hp ho, hr]
  exact congrArg _ (State.advance_eq hq rfl)

/-- A failed OPEN goes to the two idle lines, `PDL` (S45) (R157). -/
theorem step_open_fail (hp : s.pc = .step 7) (ho : s.sessionOpen = false) (hr : s.transportAnswer = .fail) :
    step s =
      .next ((((s.takeTransport.emit (.openTransport 0 4000000 .fail)).setSession false).withError
        .transportFailure).toStep 45) := by
  have hq : ((s.takeTransport.emit (.openTransport 0 4000000 .fail)).setSession false).pc = .step 7 := hp
  have hl : listing s.params s.bm.length 7 = .openTransport 0 4000000 := rfl
  rw [step_listing hp (by decide), hl, exec_openTransport hp ho, hr]
  exact congrArg _ (State.signal_raise_open hq _)

theorem step_close_ok (hp : s.pc = .step 44) (ho : s.sessionOpen = true) (hr : s.transportAnswer = .ok) :
    step s = .next (((s.takeTransport.emit (.closeTransport .ok)).setSession false).toStep 45) := by
  have hq : ((s.takeTransport.emit (.closeTransport .ok)).setSession false).pc = .step 44 := hp
  have hl : listing s.params s.bm.length 44 = .closeTransport := rfl
  rw [step_listing hp (by decide), hl, exec_closeTransport hp ho, hr]
  exact congrArg _ (State.advance_eq hq rfl)

/-! ### The outcomes still to be drawn -/

/-- The next `r` transport calls succeed. -/
def State.OkFor (s : State) (r : Nat) : Prop := ∀ j < r, s.transportAnswerAt j = .ok

theorem State.OkFor.head {r : Nat} (h : s.OkFor r) (hr : 0 < r) : s.transportAnswer = .ok :=
  s.transportAnswerAt_zero ▸ h 0 hr

theorem State.OkFor.mono {r r' : Nat} (h : s.OkFor r) (hr : r' ≤ r) : s.OkFor r' :=
  fun j hj => h j (Nat.lt_of_lt_of_le hj hr)

/-- After `d` transport calls. -/
theorem State.OkFor.drop {r d : Nat} (h : s.OkFor (d + r)) (ha : t.transportAnswers = s.transportAnswers.drop d)
    (hd : t.transportDraws = s.transportDraws + d) : t.OkFor r := by
  intro j hj
  rw [← h (d + j) (by omega), State.transportAnswerAt, State.transportAnswerAt, ha, hd, List.getElem?_drop,
    Nat.add_assoc]

/-- The next `r` busy waits are cleared. -/
def State.ClearFor (s : State) (r : Nat) : Prop := ∀ j < r, s.waitAnswerAt j = .cleared

theorem State.ClearFor.head {r : Nat} (h : s.ClearFor r) (hr : 0 < r) : s.waitAnswer = .cleared :=
  s.waitAnswerAt_zero ▸ h 0 hr

-- The operations that draw no wait leave the next one its outcome.

@[simp] theorem State.emit_waitAnswer (s : State) (e : Event) : (s.emit e).waitAnswer = s.waitAnswer := rfl

@[simp] theorem State.takeTransport_waitAnswer (s : State) : s.takeTransport.waitAnswer = s.waitAnswer := rfl

@[simp] theorem State.setSession_waitAnswer (s : State) (b : Bool) : (s.setSession b).waitAnswer = s.waitAnswer := rfl

@[simp] theorem State.toStep_waitAnswer (s : State) (m : Fin 48) : (s.toStep m).waitAnswer = s.waitAnswer := rfl

/-- After one wait. -/
theorem State.ClearFor.tail {r : Nat} (h : s.ClearFor (r + 1)) (ha : t.waitAnswers = s.waitAnswers.tail)
    (hd : t.waitDraws = s.waitDraws + 1) : t.ClearFor r := by
  intro j hj
  rw [← h (j + 1) (by omega), State.waitAnswerAt, State.waitAnswerAt, ha, hd, List.getElem?_tail, Nat.add_assoc,
    Nat.add_comm 1 j]

/-! ### Transfers that all succeed -/

theorem goodTransfers_append (p : Params) (ws ws' : List (Select × Byte)) :
    goodTransfers p (ws ++ ws') = goodTransfers p ws ++ goodTransfers p ws' := List.flatMap_append

/-- `s` after the transfers `ws`, all of them `Ok`, the last one with the select `k` (R136). -/
def State.streamed (s : State) (k : Select) (ws : List (Select × Byte)) : State :=
  { s with
    trace := s.trace ++ goodTransfers s.params ws
    dc := some (dcFor s.params k)
    cs := some .low
    transportAnswers := s.transportAnswers.drop ws.length
    transportDraws := s.transportDraws + ws.length }

theorem State.sent_eq_streamed (hr : s.transportAnswer = .ok) (k : Select) (b : Byte) :
    s.sent k b = s.streamed k [(k, b)] := by
  simp [State.sent, State.streamed, hr, goodTransfers, csAfter]

@[simp] theorem State.streamed_waitAnswer (s : State) (k : Select) (ws : List (Select × Byte)) :
    (s.streamed k ws).waitAnswer = s.waitAnswer := rfl

@[simp] theorem State.streamed_bm (s : State) (k : Select) (ws : List (Select × Byte)) :
    (s.streamed k ws).bm = s.bm := rfl

@[simp] theorem State.toStep_bm (s : State) (m : Fin 48) : (s.toStep m).bm = s.bm := rfl

@[simp] theorem State.streamed_sessionOpen (s : State) (k : Select) (ws : List (Select × Byte)) :
    (s.streamed k ws).sessionOpen = s.sessionOpen := rfl

@[simp] theorem State.toStep_sessionOpen (s : State) (m : Fin 48) : (s.toStep m).sessionOpen = s.sessionOpen := rfl

theorem State.streamed_streamed (s : State) (k k' : Select) (ws ws' : List (Select × Byte)) :
    (s.streamed k ws).streamed k' ws' = s.streamed k' (ws ++ ws') := by
  simp [State.streamed, goodTransfers_append, Nat.add_assoc]

theorem State.OkFor.streamed {r : Nat} {ws : List (Select × Byte)} (h : s.OkFor (ws.length + r)) (k : Select) :
    (s.streamed k ws).OkFor r :=
  h.drop rfl rfl

theorem State.streamed_toStep (s : State) (k : Select) (ws : List (Select × Byte)) (m : Fin 48) :
    (s.streamed k ws).toStep m = (s.toStep m).streamed k ws := rfl

theorem State.toStep_toStep (s : State) (hm : m ≠ 36) (m' : Fin 48) : (s.toStep m).toStep m' = s.toStep m' := by
  simp [State.toStep, hm]

/-- A step whose entry sends a symbol is neither the open nor the loop. -/
theorem ne_of_sentSymbol {p : Params} {len : Nat} {w : Select × Byte} (h : sentSymbol p (listing p len n) = some w) :
    n ≠ 7 ∧ n ≠ 36 := by
  constructor <;> rintro rfl <;> cases h

theorem step_transfer_ok {k : Select} {b : Byte} (hp : s.pc = .step n) (hm : m.val = n.val + 1)
    (hl : sentSymbol s.params (listing s.params s.bm.length n) = some (k, b)) (ho : s.sessionOpen = true)
    (hr : s.transportAnswer = .ok) : step s = .next ((s.streamed k [(k, b)]).toStep m) := by
  obtain ⟨h7, h36⟩ := ne_of_sentSymbol hl
  rw [step_listing hp h36, exec_sentSymbol hl, State.transferStep_eq hp hm h7 ho, hr, State.sent_eq_streamed hr]
  rfl

/-- The steps from `n` on send the symbols `ws`, one each. -/
def ListSends (p : Params) (len n : Nat) (ws : List (Select × Byte)) : Prop :=
  ws.map some <+: ((stepList p len).drop n).map (sentSymbol p)

theorem listSends_cons {p : Params} {len : Nat} {w : Select × Byte} {ws : List (Select × Byte)}
    (h : ListSends p len n.val (w :: ws)) :
    sentSymbol p (listing p len n) = some w ∧ ListSends p len (n.val + 1) ws := by
  have hn : n.val < (stepList p len).length := n.isLt
  have hl : (stepList p len)[n.val] = listing p len n :=
    Option.some.inj ((List.getElem?_eq_getElem hn).symm.trans (stepList_getElem? p len n))
  rw [ListSends, List.drop_eq_getElem_cons hn, hl, List.map_cons, List.map_cons, List.cons_prefix_cons] at h
  exact ⟨h.1.symm, h.2⟩

theorem ListSends.ne_pixels {p : Params} {len : Nat} {ws : List (Select × Byte)} (h : ListSends p len n.val ws)
    (hne : ws ≠ []) : n ≠ 36 := by
  cases ws with
  | nil => exact absurd rfl hne
  | cons w ws => exact (ne_of_sentSymbol (listSends_cons h).1).2

/-- Steps in a row that send one symbol each, all `Ok`. -/
theorem run_transfers {k : Select} {b : Byte} {ws : List (Select × Byte)} (hp : s.pc = .step n)
    (hm : m.val = n.val + (ws.length + 1)) (hl : ListSends s.params s.bm.length n.val (ws ++ [(k, b)]))
    (ho : s.sessionOpen = true) (hr : s.OkFor (ws.length + 1)) :
    core.run (ws.length + 1) s = .next ((s.streamed k (ws ++ [(k, b)])).toStep m) := by
  induction ws generalizing s n with
  | nil => exact run_one (step_transfer_ok hp hm (listSends_cons hl).1 ho (hr.head (Nat.succ_pos _)))
  | cons w ws ih =>
    rw [List.length_cons] at hm hr
    obtain ⟨h1, hl'⟩ := listSends_cons hl
    have hlt : n.val + 1 < 48 := by have := m.isLt; omega
    have hs : step s = .next ((s.streamed w.1 [w]).toStep ⟨n.val + 1, hlt⟩) :=
      step_transfer_ok hp rfl h1 ho (hr.head (Nat.succ_pos _))
    have hr' : (s.streamed w.1 [w]).OkFor (ws.length + 1) := (hr.mono (Nat.le_of_eq (Nat.add_comm _ _))).streamed w.1
    have h36 : (⟨n.val + 1, hlt⟩ : Fin 48) ≠ 36 := ListSends.ne_pixels hl' (by simp)
    have hrun := ih (s := (s.streamed w.1 [w]).toStep ⟨n.val + 1, hlt⟩) (n := ⟨n.val + 1, hlt⟩) rfl
      (by simp only; omega) hl' ho hr'
    have hstate : (((s.streamed w.1 [w]).toStep ⟨n.val + 1, hlt⟩).streamed k (ws ++ [(k, b)])).toStep m =
        (s.streamed k (w :: ws ++ [(k, b)])).toStep m := by
      rw [← State.streamed_toStep, State.toStep_toStep _ h36, State.streamed_streamed]
      rfl
    exact (run_succ _ hs).trans (hrun.trans (congrArg _ hstate))

/-! ### The stream of S36 -/

/-- `s` with the step counter and the byte index of the loop. -/
def State.inLoop (s : State) (p : Pc) (i : Nat) : State := { s with pc := p, idx := i }

/-- One pass of the loop, `Ok`. -/
theorem step_pixel_ok (hp : s.pc = .step 36) (ho : s.sessionOpen = true) (hb : s.bm.wf) (hf : s.FrameInv)
    (hi : s.idx < Config.NB) (hr : s.transportAnswer = .ok) :
    step s =
      .next ((s.streamed .data [(.data, packedByte s.prevFrame s.bm s.idx)]).inLoop
        (if s.idx + 1 < Config.NB then .step 36 else .step 37) (s.idx + 1)) := by
  obtain ⟨a, b, hc, hpack⟩ := State.exists_codePair_eq hb hf hi
  have hq : (s.sent .data (packCodes a b)).pc = .step 36 := hp
  rw [step_pixel hp hi hc, exec_pixelByte hp ho, hr, State.settlePixel_ok hq, hpack, State.sent_eq_streamed hr]
  rfl

/-- `r` bytes of the stream, from the `i`-th on (R102). -/
def pixelWrites (prev : Option Memory) (bm : Memory) (i r : Nat) : List (Select × Byte) :=
  (List.range' i r).map (fun k => (.data, packedByte prev bm k))

theorem pixelWrites_succ (prev : Option Memory) (bm : Memory) (i r : Nat) :
    pixelWrites prev bm i (r + 1) = [(.data, packedByte prev bm i)] ++ pixelWrites prev bm (i + 1) r := by
  rw [pixelWrites, List.range'_succ, List.map_cons, pixelWrites, List.singleton_append]

@[simp] theorem pixelWrites_length (prev : Option Memory) (bm : Memory) (i r : Nat) :
    (pixelWrites prev bm i r).length = r := by
  simp [pixelWrites]

theorem pixelWrites_all (prev : Option Memory) (bm : Memory) :
    pixelWrites prev bm 0 Config.NB = (packedStream prev bm).map (fun b => (.data, b)) := by
  rw [pixelWrites, packedStream, List.range_eq_range', List.map_map]
  rfl

/-- The rest of the stream, all `Ok` (R102). -/
theorem run_pixels {r : Nat} (hp : s.pc = .step 36) (ho : s.sessionOpen = true) (hb : s.bm.wf) (hf : s.FrameInv)
    (hi : s.idx + (r + 1) = Config.NB) (hr : s.OkFor (r + 1)) :
    core.run (r + 1) s =
      .next ((s.streamed .data (pixelWrites s.prevFrame s.bm s.idx (r + 1))).inLoop (.step 37) Config.NB) := by
  induction r generalizing s with
  | zero =>
    have hs := step_pixel_ok hp ho hb hf (by omega) (hr.head (Nat.succ_pos _))
    rw [if_neg (by omega), hi] at hs
    exact run_one hs
  | succ r ih =>
    have hs := step_pixel_ok hp ho hb hf (by omega) (hr.head (Nat.succ_pos _))
    rw [if_pos (by omega)] at hs
    have hr' : (s.streamed .data [(.data, packedByte s.prevFrame s.bm s.idx)]).OkFor (r + 1) :=
      (hr.mono (Nat.le_of_eq (Nat.add_comm _ _))).streamed .data
    have hi' : s.idx + 1 + (r + 1) = Config.NB := by omega
    have hrun := ih (s := (s.streamed .data [(.data, packedByte s.prevFrame s.bm s.idx)]).inLoop (.step 36) (s.idx + 1))
      rfl ho hb hf hi' hr'
    refine (run_succ _ hs).trans (hrun.trans (congrArg _ ?_))
    rw [pixelWrites_succ _ _ s.idx, ← State.streamed_streamed s .data .data]
    rfl

/-- The whole stream, all `Ok` (R102). -/
theorem run_stream (hp : s.pc = .step 36) (hi : s.idx = 0) (ho : s.sessionOpen = true) (hb : s.bm.wf)
    (hf : s.FrameInv) (hr : s.OkFor Config.NB) :
    core.run Config.NB s =
      .next ((s.streamed .data (pixelWrites s.prevFrame s.bm 0 Config.NB)).inLoop (.step 37) Config.NB) := by
  have h := run_pixels (r := 122879) hp ho hb hf (by rw [hi]) hr
  rw [hi] at h
  exact h

end Sys2Proof.Machine
end

section
/-!
SUPPORT. The sequences of the step list without a failure (40_update.md R67, R72), each as one equation of states.
-/

namespace Sys2Proof.Machine

variable {s : State} {n m : Fin 48}

/-! ### The sequences of the step list -/

/-- `s` after the request `bm` was taken and its length checked (R65, R68). -/
def State.accepted (s : State) (bm : Memory) (rest : List Memory) : State :=
  { s with requests := rest, bm := bm, err := none, pc := .step 1 }

/-- From IDLE to S01: a request of the right length (R65, R68). -/
theorem run_accept {bm : Memory} {rest : List Memory} (hp : s.pc = .idle) (hr : s.requests = bm :: rest)
    (hb : bm.wf) : core.run 2 s = .next (s.accepted bm rest) := by
  have h0 : step s = .next { s with requests := rest, bm := bm, pc := .step 0 } :=
    (step_idle_cons hp hr).trans (exec_update (s := { s with requests := rest }) hp bm)
  have h1 : step { s with requests := rest, bm := bm, pc := .step 0 } =
      .next (s.accepted bm rest) := by
    rw [step_listing (n := 0) rfl (by decide)]
    exact (checkComparesTheLength _ _ rfl).trans (congrArg _ (if_pos hb))
  exact (run_succ 1 h0).trans (run_one h1)

/-- One LINE step of the reset line and the DELAY step after it (R76). -/
theorem run_hold {v : Level} {ms : Nat} {k : Fin 48} (hp : s.pc = .step n) (hm : m.val = n.val + 1)
    (hk : k.val = m.val + 1) (h36 : n ≠ 36 ∧ m ≠ 36 ∧ k ≠ 36) (hl : listing s.params s.bm.length n = .line .rst v)
    (hd : listing s.params s.bm.length m = .delay ms) :
    core.run 2 s =
      .next { s with pc := .step k, rst := some v, trace := s.trace ++ [.line .rst v, .delay ms] } := by
  obtain ⟨hn36, hm36, hk36⟩ := h36
  have h1 : step s = .next ((s.drive .rst v).toStep m) := step_line hp hm hn36 hl
  have h2 : step ((s.drive .rst v).toStep m) = .next ((((s.drive .rst v).toStep m).emit (.delay ms)).toStep k) :=
    step_delay rfl hk hm36 hd
  rw [run_succ 1 h1, run_one h2]
  simp [State.toStep, State.drive, State.setLine, State.emit, hm36, hk36]

/-- `s` after the reset pulse (R76). -/
def State.pulsed (s : State) : State :=
  { s with
    pc := .step 7, rst := some s.params.rstActiveLevel
    trace := s.trace ++
      [.line .rst s.params.rstActiveLevel, .delay 200, .line .rst (flipLevel s.params.rstActiveLevel), .delay 10,
       .line .rst s.params.rstActiveLevel, .delay 200] }

/-- S01 to S06: the reset pulse (R76). -/
theorem run_resetPulse (hp : s.pc = .step 1) : core.run 6 s = .next s.pulsed := by
  have h1 := run_hold (m := 2) (k := 3) hp rfl rfl (by decide) rfl rfl
  have h3 := run_hold (s := { s with
      pc := .step 3, rst := some s.params.rstActiveLevel
      trace := s.trace ++ [.line .rst s.params.rstActiveLevel, .delay 200] })
    (m := 4) (k := 5) rfl rfl rfl (by decide) rfl rfl
  have h5 := run_hold (s := { s with
      pc := .step 5, rst := some (flipLevel s.params.rstActiveLevel)
      trace := s.trace ++ [.line .rst s.params.rstActiveLevel, .delay 200] ++
        [.line .rst (flipLevel s.params.rstActiveLevel), .delay 10] })
    (m := 6) (k := 7) rfl rfl rfl (by decide) rfl rfl
  rw [run_add 4 h1, run_add 2 h3, h5]
  simp [State.pulsed]

/-- `s` with a session and the init stream sent (R78 to R91). -/
def State.poweredOn (s : State) : State :=
  { s with
    sessionOpen := true, pc := .step 35, dc := some (dcFor s.params .data), cs := some .low
    trace := s.trace ++ ([.openTransport 0 4000000 .ok] ++ goodTransfers s.params (initBeforeWait s.params) ++
      [.wait 5000 .cleared] ++ goodTransfers s.params (initAfterWait s.params))
    transportAnswers := s.transportAnswers.drop 27, transportDraws := s.transportDraws + 27
    waitAnswers := s.waitAnswers.tail, waitDraws := s.waitDraws + 1 }

/-- S07 to S34: the session and the init stream (R78 to R91). -/
theorem run_powerOn (hp : s.pc = .step 7) (ho : s.sessionOpen = false) (hr : s.OkFor 27)
    (hw : s.waitAnswer = .cleared) : core.run 28 s = .next s.poweredOn := by
  let s8 := ((s.takeTransport.emit (.openTransport 0 4000000 .ok)).setSession true).toStep 8
  let s19 := (s8.streamed .command (initBeforeWait s.params)).toStep 19
  let s20 := (s19.takeWait.emit (.wait 5000 .cleared)).toStep 20
  have hr8 : s8.OkFor 26 := hr.drop (d := 1) List.drop_one.symm rfl
  have hr20 : s20.OkFor 15 := hr8.drop (d := 11) rfl rfl
  have h7 : step s = .next s8 := step_open_ok hp ho (hr.head (by decide))
  have h8 : core.run 11 s8 = .next s19 :=
    run_transfers (ws := (initBeforeWait s.params).take 10) rfl rfl ⟨_, rfl⟩ rfl (hr8.mono (by simp [initBeforeWait]))
  have hw19 : s19.waitAnswer = .cleared := by simpa [s19, s8] using hw
  have h19 : step s19 = .next s20 := step_wait_cleared rfl rfl (by decide) rfl hw19
  have h20 : core.run 15 s20 = .next ((s20.streamed .data (initAfterWait s.params)).toStep 35) :=
    run_transfers (ws := (initAfterWait s.params).take 14) rfl rfl ⟨_, rfl⟩ rfl hr20
  rw [run_succ 27 h7, run_add 16 h8, run_succ 15 h19, h20]
  simp [s8, s19, s20, State.poweredOn, State.toStep, State.streamed, State.emit, State.takeTransport, State.takeWait,
    State.setSession, initBeforeWait, initAfterWait]

/-- `s` with the pixel stream sent (R100 to R102). -/
def State.transmitted (s : State) : State :=
  { s with
    idx := Config.NB, pc := .step 37, dc := some (dcFor s.params .data), cs := some .low
    trace := s.trace ++ (goodTransfers s.params [(.command, 0x10)] ++
      goodTransfers s.params (pixelWrites s.prevFrame s.bm 0 Config.NB))
    transportAnswers := s.transportAnswers.drop (1 + Config.NB)
    transportDraws := s.transportDraws + (1 + Config.NB) }

/-- S35 and S36: the stream (R100 to R102). -/
theorem run_transmission (hp : s.pc = .step 35) (ho : s.sessionOpen = true) (hb : s.bm.wf) (hf : s.FrameInv)
    (hr : s.OkFor (1 + Config.NB)) : core.run (Config.NB + 1) s = .next s.transmitted := by
  have h35 : step s = .next ((s.streamed .command [(.command, 0x10)]).toStep 36) :=
    step_transfer_ok hp rfl rfl ho (hr.head (by omega))
  have h36 := run_stream (s := (s.streamed .command [(.command, 0x10)]).toStep 36) rfl rfl ho hb hf
    (hr.drop (d := 1) rfl rfl)
  rw [run_succ Config.NB h35, h36]
  simp only [State.transmitted, State.streamed, State.toStep, State.inLoop, pixelWrites_length, List.append_assoc,
    List.drop_drop, Nat.add_assoc]
  rfl

/-- `s` with the refresh done and the bitmap committed (R103 to R106). -/
def State.refreshed (s : State) : State :=
  { s with
    fs := s.bm, fsValid := true, pc := .step 40, dc := some (dcFor s.params .command), cs := some .low
    trace := s.trace ++ (goodTransfers s.params [(.command, 0x12)] ++ [.wait 40000 .cleared])
    transportAnswers := s.transportAnswers.drop 1, transportDraws := s.transportDraws + 1
    waitAnswers := s.waitAnswers.tail, waitDraws := s.waitDraws + 1 }

/-- S37 to S39: the refresh and the commit (R103 to R106). -/
theorem run_refresh (hp : s.pc = .step 37) (ho : s.sessionOpen = true) (hb : s.bm.wf) (hr : s.OkFor 1)
    (hw : s.waitAnswer = .cleared) : core.run 3 s = .next s.refreshed := by
  let s38 := (s.streamed .command [(.command, 0x12)]).toStep 38
  let s39 := (s38.takeWait.emit (.wait 40000 .cleared)).toStep 39
  have h37 : step s = .next s38 := step_transfer_ok hp rfl rfl ho (hr.head Nat.zero_lt_one)
  have h38 : step s38 = .next s39 := step_wait_cleared rfl rfl (by decide) rfl hw
  have hb39 : s39.bm = s.bm := by simp [s39, s38]
  have h39 : step s39 = .next ((s39.storeFrame s39.bm).toStep 40) := step_commit rfl (hb39 ▸ hb)
  rw [run_succ 2 h37, run_succ 1 h38, run_one h39]
  simp [s38, s39, State.refreshed, State.toStep, State.streamed, State.emit, State.takeWait, State.storeFrame]

/-- `s` with the power-down commands sent and the session closed (R111 to R114). -/
def State.poweredDown (s : State) : State :=
  { s with
    sessionOpen := false, pc := .step 45, dc := some (dcFor s.params .data), cs := some .low
    trace := s.trace ++ (goodTransfers s.params [(.command, 0x02)] ++ [.wait 5000 .cleared] ++
      goodTransfers s.params [(.command, 0x07), (.data, 0xA5)] ++ [.closeTransport .ok])
    transportAnswers := s.transportAnswers.drop 4, transportDraws := s.transportDraws + 4
    waitAnswers := s.waitAnswers.tail, waitDraws := s.waitDraws + 1 }

/-- S40 to S44: the power-down sequence up to the close (R111 to R114). -/
theorem run_powerDown (hp : s.pc = .step 40) (ho : s.sessionOpen = true) (hr : s.OkFor 4)
    (hw : s.waitAnswer = .cleared) : core.run 5 s = .next s.poweredDown := by
  let s41 := (s.streamed .command [(.command, 0x02)]).toStep 41
  let s42 := (s41.takeWait.emit (.wait 5000 .cleared)).toStep 42
  let s44 := (s42.streamed .data [(.command, 0x07), (.data, 0xA5)]).toStep 44
  have hr42 : s42.OkFor 3 := hr.drop (d := 1) rfl rfl
  have hr44 : s44.OkFor 1 := hr42.drop (d := 2) rfl rfl
  have h40 : step s = .next s41 := step_transfer_ok hp rfl rfl ho (hr.head (by decide))
  have h41 : step s41 = .next s42 := step_wait_cleared rfl rfl (by decide) rfl hw
  have h42 : core.run 2 s42 = .next s44 :=
    run_transfers (ws := [(.command, 0x07)]) rfl rfl ⟨_, rfl⟩ ho (hr42.mono (by decide))
  have ho44 : s44.sessionOpen = true := by simp [s44, s42, s41, ho]
  have h44 : step s44 = .next (((s44.takeTransport.emit (.closeTransport .ok)).setSession false).toStep 45) :=
    step_close_ok rfl ho44 (hr44.head (by decide))
  rw [run_succ 4 h40, run_succ 3 h41, run_add 1 h42, run_one h44]
  simp [s41, s42, s44, State.poweredDown, State.toStep, State.streamed, State.emit, State.takeTransport, State.takeWait,
    State.setSession]

/-- `s` after the two idle lines and the return (R115, R66). -/
def State.returned (s : State) : State :=
  { s with
    pc := .idle, rst := some .high, dc := some .high
    trace := s.trace ++ [.line .rst .high, .line .dc .high, .ret s.result] }

/-- S45 to S47: the two idle lines and the return (R115, R66). -/
theorem run_idleLines (hp : s.pc = .step 45) : core.run 3 s = .next s.returned := by
  have h45 : step s = .next ((s.drive .rst .high).toStep 46) := step_line hp rfl (by decide) rfl
  have h46 : step ((s.drive .rst .high).toStep 46) =
      .next ((((s.drive .rst .high).toStep 46).drive .dc .high).toStep 47) := step_line rfl rfl (by decide) rfl
  rw [run_succ 2 h45, run_succ 1 h46, run_one (step_ret rfl)]
  simp [State.returned, State.drive, State.setLine, State.emit, State.toStep, State.goto, State.result]

/-! ### The whole update -/

/-- An update with no failure and no time-out: the sequences in order (R67). -/
theorem run_update {bm : Memory} {rest : List Memory} (hs : s.Inv) (hp : s.pc = .idle) (hreq : s.requests = bm :: rest)
    (hb : bm.wf) (hr : s.OkFor 122913) (hw : s.ClearFor 3) :
    core.run (Config.NB + 48) s =
      .next (s.accepted bm rest).pulsed.poweredOn.transmitted.refreshed.poweredDown.returned := by
  let a := (s.accepted bm rest).pulsed
  have ho : a.sessionOpen = false := (State.sessionInv_iff.mp hs.session).trans (by rw [hp]; rfl)
  have hf : a.FrameInv := State.frameInv_of_wf hs.store
  have hr7 : a.OkFor (27 + (1 + Config.NB + (1 + 4))) := hr.mono (by decide)
  have hr35 : a.poweredOn.OkFor (1 + Config.NB + (1 + 4)) := hr7.drop rfl rfl
  have hr37 : a.poweredOn.transmitted.OkFor (1 + 4) := hr35.drop rfl rfl
  have hr40 : a.poweredOn.transmitted.refreshed.OkFor 4 := hr37.drop rfl rfl
  have hw37 : a.poweredOn.transmitted.ClearFor 2 := hw.tail rfl rfl
  have hw40 : a.poweredOn.transmitted.refreshed.ClearFor 1 := hw37.tail rfl rfl
  have h0 : core.run 2 s = .next (s.accepted bm rest) := run_accept hp hreq hb
  have h1 : core.run 6 (s.accepted bm rest) = .next a := run_resetPulse rfl
  have h7 : core.run 28 a = .next a.poweredOn := run_powerOn rfl ho (hr7.mono (by decide)) (hw.head (by decide))
  have h35 := run_transmission (s := a.poweredOn) rfl rfl hb hf (hr35.mono (by decide))
  have h37 := run_refresh (s := a.poweredOn.transmitted) rfl rfl hb (hr37.mono (by decide)) (hw37.head (by decide))
  have h40 := run_powerDown (s := a.poweredOn.transmitted.refreshed) rfl rfl hr40 (hw40.head (by decide))
  have h45 := run_idleLines (s := a.poweredOn.transmitted.refreshed.poweredDown) rfl
  calc core.run (Config.NB + 48) s
    _ = core.run (2 + (6 + (28 + (Config.NB + 1 + (3 + (5 + 3)))))) s := rfl
    _ = core.run (6 + (28 + (Config.NB + 1 + (3 + (5 + 3))))) (s.accepted bm rest) := run_add _ h0
    _ = core.run (28 + (Config.NB + 1 + (3 + (5 + 3)))) a := run_add _ h1
    _ = core.run (Config.NB + 1 + (3 + (5 + 3))) a.poweredOn := run_add _ h7
    _ = core.run (3 + (5 + 3)) a.poweredOn.transmitted := run_add _ h35
    _ = core.run (5 + 3) a.poweredOn.transmitted.refreshed := run_add _ h37
    _ = core.run 3 a.poweredOn.transmitted.refreshed.poweredDown := run_add _ h40
    _ = .next a.poweredOn.transmitted.refreshed.poweredDown.returned := h45

end Sys2Proof.Machine
end

section
/-!
SUPPORT. What a trace shows of a list of transfers (R72), and the statements on whole updates (40_update.md).
-/

namespace Sys2Proof.Machine

/-! ### The readings of transfers that all succeed -/

theorem transferEvents_ok_length (p : Params) (k : Select) (b : Byte) : (transferEvents p k b .ok).length = 5 := by
  cases hs : p.csByteSlot <;> simp [transferEvents, drivesBefore, drivesAfter, hs]

@[simp] theorem goodTransfers_length (p : Params) (ws : List (Select × Byte)) :
    (goodTransfers p ws).length = 5 * ws.length := by
  simp [goodTransfers, transferEvents_ok_length, Nat.mul_comm]

@[simp] theorem writtenBytes_append (es es' : List Event) :
    writtenBytes (es ++ es') = writtenBytes es ++ writtenBytes es' := List.filterMap_append

@[simp] theorem writtenBytes_goodTransfers (p : Params) (ws : List (Select × Byte)) :
    writtenBytes (goodTransfers p ws) = ws.map Prod.snd := by
  induction ws with
  | nil => rfl
  | cons w ws ih =>
    rw [← List.singleton_append, goodTransfers_append, writtenBytes_append, ih, List.map_append]
    simp [goodTransfers, writtenBytes_transferEvents]

/-- The level of the command-select line after a trace, from its level before. -/
def dcAfter : Option Level → List Event → Option Level
  | dc, [] => dc
  | _, .line .dc v :: es => dcAfter (some v) es
  | dc, _ :: es => dcAfter dc es

theorem busSymbols_append (p : Params) (dc : Option Level) (es es' : List Event) :
    busSymbols p dc (es ++ es') = busSymbols p dc es ++ busSymbols p (dcAfter dc es) es' := by
  induction es generalizing dc with
  | nil => simp [busSymbols, dcAfter]
  | cons e es ih =>
    cases e with
    | line l v => cases l <;> simp [busSymbols, dcAfter, ih]
    | write b r => cases dc <;> simp [busSymbols, dcAfter, ih]
    | _ => simp [busSymbols, dcAfter, ih]

/-- The symbols of transfers that all succeed, whatever the level of the command-select line before (R189). -/
theorem busSymbols_goodTransfers (p : Params) (dc : Option Level) (ws : List (Select × Byte)) :
    busSymbols p dc (goodTransfers p ws) = ws.map (fun w => Symbol.mk w.1 w.2) := by
  induction ws generalizing dc with
  | nil => rfl
  | cons w ws ih =>
    have h1 : goodTransfers p [w] = transferEvents p w.1 w.2 .ok := List.flatMap_singleton ..
    rw [← List.singleton_append, goodTransfers_append, busSymbols_append, ih, h1, busSymbols_transferEvents]
    rfl

/-- A trace in which no byte is written shows no symbol. -/
theorem busSymbols_of_no_write (p : Params) (dc : Option Level) {es : List Event} (h : writtenBytes es = []) :
    busSymbols p dc es = [] := by
  induction es generalizing dc with
  | nil => rfl
  | cons e es ih =>
    have he : writtenBytes es = [] := List.append_eq_nil_iff.mp (writtenBytes_append [e] es ▸ h) |>.2
    cases e with
    | write b r => cases h
    | line l v => cases l <;> simp [busSymbols, ih _ he]
    | _ => simp [busSymbols, ih _ he]

/-! ### The events of a whole update -/

/-- The events of an update with no failure and no time-out, as the step list gives them (R67, R72). -/
def favourableEvents (p : Params) (stream : List (Select × Byte)) : List Event :=
  List.flatten
    [[.line .rst p.rstActiveLevel, .delay 200, .line .rst (flipLevel p.rstActiveLevel), .delay 10,
      .line .rst p.rstActiveLevel, .delay 200, .openTransport 0 4000000 .ok],
     goodTransfers p (initBeforeWait p), [.wait 5000 .cleared], goodTransfers p (initAfterWait p),
     goodTransfers p [(.command, 0x10)], goodTransfers p stream, goodTransfers p [(.command, 0x12)],
     [.wait 40000 .cleared], goodTransfers p [(.command, 0x02)], [.wait 5000 .cleared],
     goodTransfers p [(.command, 0x07), (.data, 0xA5)],
     [.closeTransport .ok, .line .rst .high, .line .dc .high, .ret .ok]]

theorem busSymbols_favourableEvents (p : Params) (dc : Option Level) (stream : List (Select × Byte)) :
    busSymbols p dc (favourableEvents p stream) =
      (List.flatten
        [initBeforeWait p, initAfterWait p, [(.command, 0x10)], stream, [(.command, 0x12)], [(.command, 0x02)],
         [(.command, 0x07), (.data, 0xA5)]]).map (fun w => Symbol.mk w.1 w.2) := by
  have hquiet {es : List Event} (h : writtenBytes es = []) (d : Option Level) := busSymbols_of_no_write p d h
  simp only [favourableEvents, List.flatten_cons, List.flatten_nil, busSymbols_append, busSymbols_goodTransfers,
    List.map_append, List.append_nil]
  rw [hquiet rfl, hquiet rfl, hquiet rfl, hquiet rfl, hquiet rfl]
  rfl

theorem favourableEvents_length (p : Params) {stream : List (Select × Byte)} (h : stream.length = Config.NB) :
    (favourableEvents p stream).length = 614569 := by
  simp [favourableEvents, initBeforeWait, initAfterWait, h, Config.NB]

theorem writtenBytes_favourableEvents_length (p : Params) {stream : List (Select × Byte)}
    (h : stream.length = Config.NB) : (writtenBytes (favourableEvents p stream)).length = 122911 := by
  simp only [favourableEvents, List.flatten_cons, List.flatten_nil, writtenBytes_append, writtenBytes_goodTransfers,
    List.length_append, List.length_map, h]
  simp [initBeforeWait, initAfterWait, writtenBytes, List.filterMap_cons, Event.writtenByte, Config.NB]

theorem accepted_run_trace (s : State) (bm : Memory) (rest : List Memory) :
    (s.accepted bm rest).pulsed.poweredOn.transmitted.refreshed.poweredDown.returned.trace =
      s.trace ++ favourableEvents s.params (pixelWrites s.prevFrame bm 0 Config.NB) := by
  simp [State.returned, State.poweredDown, State.refreshed, State.transmitted, State.poweredOn, State.pulsed,
    State.accepted, State.result, State.prevFrame, favourableEvents]

/-! ### The statements on whole updates -/

/-- Settles O55: the failed open, and the three steps from `PDL`. -/
theorem openFailureDrivesTheIdleLinesOnly : Obligations.OpenFailureDrivesTheIdleLinesOnly := by
  intro s hs hp hr
  have ho : s.sessionOpen = false := hs.sessionOpen_false hp (.inl (by decide))
  have he : s.err = none := hs.err_none hp (by decide) (by decide)
  have hrun := (run_succ 3 (step_open_fail hp ho hr)).trans (run_idleLines rfl)
  refine ⟨_, hrun, ?_⟩
  simp [State.returned, State.toStep, State.withError, State.result, he]

/-- Settles O59: the sequences of the step list in order, and what their events show. -/
theorem favourableUpdate : Obligations.FavourableUpdate := by
  intro s bm rest hs hp hreq hb hr hw a na p stream
  have hstream : pixelWrites s.prevFrame bm 0 Config.NB = stream := pixelWrites_all _ _
  have hlen : stream.length = Config.NB := hstream ▸ pixelWrites_length _ _ _ _
  have htrace := accepted_run_trace s bm rest
  rw [hstream] at htrace
  have hna : flipLevel p.rstActiveLevel = na := flipLevel_eq _
  have hrun := run_update hs hp hreq hb hr hw
  refine ⟨_, favourableEvents p stream, hrun, rfl, rfl, rfl, rfl, rfl, rfl, rfl, rfl, rfl,
    htrace, ?_, busSymbols_favourableEvents p s.dc stream, favourableEvents_length p hlen,
    writtenBytes_favourableEvents_length p hlen⟩
  rw [favourableEvents, hna]

end Sys2Proof.Machine
end

section
/-!
SUPPORT. Power-on (41_power_on.md): RSTPULSE as the six steps it stands for, the reset line through an update, the init
stream, and the statements of the family settled from these.
-/

namespace Sys2Proof.Machine

variable {s t : State} {n m : Fin 48}

/-! ### The reset pulse -/

/-- `s` at step `k`, the reset line driven to `v` and held for `ms`. -/
def State.resetHeld (s : State) (k : Fin 48) (v : Level) (ms : Nat) : State :=
  { s with pc := .step k, rst := some v, trace := s.trace ++ [.line .rst v, .delay ms] }

/-- One LINE step and the DELAY step after it, outside the loop of S36 (R76). -/
theorem State.holdReset_eq {k : Fin 48} (hp : s.pc = .step n) (hm : m.val = n.val + 1) (hk : k.val = m.val + 1)
    (hm36 : m ≠ 36) (hk36 : k ≠ 36) (v : Level) (ms : Nat) : s.holdReset v ms = s.resetHeld k v ms := by
  have h1 : (s.drive .rst v).advance = (s.drive .rst v).toStep m :=
    State.advance_eq (by rw [State.drive_pc, hp]) hm
  have h2 : (((s.drive .rst v).toStep m).emit (.delay ms)).advance =
      (((s.drive .rst v).toStep m).emit (.delay ms)).toStep k := State.advance_eq rfl hk
  rw [State.holdReset, h1, h2]
  simp [State.resetHeld, State.toStep, State.drive, State.setLine, State.emit, hm36, hk36]

/-- RSTPULSE is the six steps S01 to S06 (R76). -/
theorem exec_rstpulse (hp : s.pc = .step 1) : exec .rstpulse s = .next s.pulsed := by
  let a := s.params.rstActiveLevel
  let s3 := s.resetHeld 3 a 200
  let s5 := s3.resetHeld 5 (flipLevel a) 10
  have h1 : s.holdReset a 200 = s3 := State.holdReset_eq (m := 2) hp rfl rfl (by decide) (by decide) _ _
  have h3 : s3.holdReset (flipLevel a) 10 = s5 :=
    State.holdReset_eq (m := 4) rfl rfl rfl (by decide) (by decide) _ _
  have h5 : s5.holdReset a 200 = s5.resetHeld 7 a 200 :=
    State.holdReset_eq (m := 6) rfl rfl rfl (by decide) (by decide) _ _
  calc exec .rstpulse s
    _ = .next (((s.holdReset a 200).holdReset (flipLevel a) 10).holdReset a 200) := State.duringUpdate_step hp _
    _ = .next s.pulsed := by
      rw [h1, h3, h5]
      simp [s3, s5, a, State.resetHeld, State.pulsed]

/-! ### The reset line: what keeps it -/

@[simp] theorem State.settlePixel_rst (s : State) (r : TransportOutcome) : (s.settlePixel r).rst = s.rst := by
  cases r with
  | ok => by_cases hl : s.idx + 1 < Config.NB <;> simp [State.settlePixel, hl]
  | fail => exact State.signal_rst s _

@[simp] theorem State.settleWait_rst (s : State) (o : WaitOutcome) (policy : WaitPolicy) :
    (s.settleWait o policy).rst = s.rst := by
  cases o with
  | cleared => rfl
  | timedOut =>
    cases policy with
    | fatal e => exact State.signal_rst s e
    | warn w => rfl

theorem State.transferStep_rst {k : Select} {b : Byte} (h : s.transferStep k b = .next t) : t.rst = s.rst := by
  rw [State.transferStep_next h, State.settle_rst, State.transfer_eq]
  rfl

theorem exec_pixelByte_rst {a b : PixelCode} (h : exec (.pixelByte a b) s = .next t) : t.rst = s.rst := by
  rw [exec_pixelByte_next h, State.settlePixel_rst, State.transfer_eq]
  rfl

theorem exec_wait_rst {ms : Nat} {policy : WaitPolicy} (h : exec (.wait ms policy) s = .next t) : t.rst = s.rst := by
  rw [exec_wait_next h, State.settleWait_rst]
  rfl

theorem exec_openTransport_rst {mode hz : Nat} (h : exec (.openTransport mode hz) s = .next t) : t.rst = s.rst := by
  rw [(exec_openTransport_next h).2, State.settle_rst]
  rfl

theorem exec_closeTransport_rst (h : exec .closeTransport s = .next t) : t.rst = s.rst := by
  rw [exec_closeTransport_next h, State.settle_rst]
  rfl

/-! ### The invariant of the lines -/

theorem State.lineInv_of_idle (ht : t.pc = .idle) : t.LineInv := by
  rw [State.LineInv, ht]
  trivial

/-- The invariant at a step, clause by clause. -/
theorem State.lineInv_iff (hp : s.pc = .step n) :
    s.LineInv ↔
      (6 ≤ n.val → n.val ≤ 45 → s.rst = some s.params.rstActiveLevel) ∧ (n.val = 46 → s.rst = some .high) ∧
      (n.val = 47 → s.err ≠ some .invalidDimensions → s.rst = some .high ∧ s.dc = some .high) := by
  rw [State.LineInv, hp]

/-- Up to S45 the invariant asks for the active level, and before S06 for nothing. -/
theorem State.lineInv_of_active (ht : t.pc = .step m) (h45 : m.val ≤ 45)
    (hr : 6 ≤ m.val → t.rst = some t.params.rstActiveLevel) : t.LineInv :=
  (State.lineInv_iff ht).mpr ⟨fun h6 _ => hr h6, fun h => absurd h (by omega), fun h => absurd h (by omega)⟩

/-- From S06 to S44 the line keeps its level, and control stays before S46. -/
theorem State.LineInv.of_held (hs : s.LineInv) (hp : s.pc = .step n) (h6 : 6 ≤ n.val) (h44 : n.val ≤ 44)
    (hpar : t.params = s.params) (hr : t.rst = s.rst) (ht : t.pc = .step m) (h45 : m.val ≤ 45) : t.LineInv :=
  State.lineInv_of_active ht h45 fun _ => by
    rw [hpar, hr]
    exact ((State.lineInv_iff hp).mp hs).1 h6 (by omega)

theorem Pc.exists_step_of_inSession {p : Pc} (h : p.inSession = true) : ∃ m : Fin 48, p = .step m ∧ m.val ≤ 44 := by
  cases p with
  | idle => cases h
  | step m => exact ⟨m, rfl, (of_decide_eq_true h).2⟩

/-- The steps that send symbols and wait, S08 to S43, stay inside the session. -/
theorem State.LineInv.of_inSession (hs : s.LineInv) (hp : s.pc = .step n) (h8 : 8 ≤ n.val) (h43 : n.val ≤ 43)
    (hpar : t.params = s.params) (hr : t.rst = s.rst) (ht : t.pc.inSession = true) : t.LineInv := by
  obtain ⟨m, hq, hm⟩ := Pc.exists_step_of_inSession ht
  exact hs.of_held hp (by omega) (by omega) hpar hr hq (by omega)

theorem exec_params {i : Instr} (h : exec i s = .next t) : t.params = s.params :=
  (exec_keeps h).params.trans (s.written_params i)

/-- CHECK goes on to S01, or to the return with the failed check latched (R68). -/
theorem exec_check_lineInv {len : Nat} (h : exec (.check len) s = .next t) (hp : s.pc = .step 0) : t.LineInv := by
  rw [exec_check_next h]
  split
  · exact State.lineInv_of_active (m := 1) (by rw [State.advance_pc, hp]; rfl) (by decide) nofun
  · exact (State.lineInv_iff (n := 47) rfl).mpr ⟨nofun, nofun, fun _ he => absurd rfl he⟩

/-- A drive of the pulse: the last one, at S05, is to the active level (R76). -/
theorem exec_pulseLine_lineInv {v : Level} (h : exec (.line .rst v) s = .next t) (hp : s.pc = .step n)
    (h5 : n.val ≤ 5) (hv : n.val = 5 → v = s.params.rstActiveLevel) : t.LineInv := by
  obtain ⟨m, hm⟩ : ∃ m : Fin 48, m.val = n.val + 1 := ⟨⟨n.val + 1, by omega⟩, rfl⟩
  rw [exec_line_next h, State.advance_eq (by rw [State.drive_pc, hp]) hm]
  refine State.lineInv_of_active rfl (by omega) fun h6 => ?_
  obtain rfl := hv (by omega)
  rfl

/-- A delay of the pulse: the last one, at S06, has the active level already (R76). -/
theorem exec_pulseDelay_keeps_lineInv {ms : Nat} (h : exec (.delay ms) s = .next t) (hs : s.LineInv)
    (hp : s.pc = .step n) (h6 : n.val ≤ 6) (h5 : n.val ≠ 5) : t.LineInv := by
  obtain ⟨m, hm⟩ : ∃ m : Fin 48, m.val = n.val + 1 := ⟨⟨n.val + 1, by omega⟩, rfl⟩
  rw [exec_delay_next h, State.advance_eq (by rw [State.emit_pc, hp]) hm]
  exact State.lineInv_of_active rfl (by omega) fun _ => ((State.lineInv_iff hp).mp hs).1 (by omega) (by omega)

theorem exec_openTransport_keeps_lineInv {mode hz : Nat} (h : exec (.openTransport mode hz) s = .next t)
    (hs : s.LineInv) (hp : s.pc = .step 7) : t.LineInv := by
  have ht : t.pc = .step (if s.transportAnswer = .ok then 8 else 45) := by
    rw [(exec_openTransport_next h).2]
    exact State.settle_pc_of_open (by exact hp) _
  refine hs.of_held hp (by decide) (by decide) (exec_params h) (exec_openTransport_rst h) ht ?_
  split <;> decide

theorem transferStep_keeps_lineInv {k : Select} {b : Byte} (h : s.transferStep k b = .next t) (hs : s.LineInv)
    (hp : s.pc = .step n) (h8 : 8 ≤ n.val) (h43 : n.val ≤ 43) : t.LineInv := by
  refine hs.of_inSession hp h8 h43 (State.transferStep_keeps h).params (State.transferStep_rst h) ?_
  rw [State.transferStep_next h, State.transfer_eq]
  exact State.settle_inSession (s := s.sent k b) hp h8 h43 _

theorem exec_pixelByte_keeps_lineInv {a b : PixelCode} (h : exec (.pixelByte a b) s = .next t) (hs : s.LineInv)
    (hp : s.pc = .step 36) : t.LineInv := by
  refine hs.of_inSession hp (by decide) (by decide) (exec_params h) (exec_pixelByte_rst h) ?_
  rw [exec_pixelByte_next h, State.transfer_eq]
  exact State.settlePixel_inSession (s := s.sent _ _) hp (by decide) (by decide) _

theorem exec_wait_keeps_lineInv {ms : Nat} {policy : WaitPolicy} (h : exec (.wait ms policy) s = .next t)
    (hs : s.LineInv) (hp : s.pc = .step n) (h8 : 8 ≤ n.val) (h43 : n.val ≤ 43) : t.LineInv := by
  refine hs.of_inSession hp h8 h43 (exec_params h) (exec_wait_rst h) ?_
  rw [exec_wait_next h]
  exact State.settleWait_inSession (s := s.takeWait.emit _) hp h8 h43 _ _

theorem exec_closeTransport_keeps_lineInv (h : exec .closeTransport s = .next t) (hs : s.LineInv)
    (hp : s.pc = .step 44) : t.LineInv := by
  have ht : t.pc = .step 45 := by
    rw [exec_closeTransport_next h]
    exact State.settle_pc_of_close (by exact hp) _
  exact hs.of_held hp (by decide) (by decide) (exec_params h) (exec_closeTransport_rst h) ht (by decide)

theorem exec_commit_keeps_lineInv (h : exec .commit s = .next t) (hs : s.LineInv) (hp : s.pc = .step 39) :
    t.LineInv := by
  obtain ⟨-, rfl⟩ := exec_commit_next h
  exact hs.of_inSession hp (by decide) (by decide) rfl rfl
    (State.advance_inSession (s := s.storeFrame s.bm) hp (by decide) (by decide))

/-- The idle drive of the reset line (R115). -/
theorem exec_idleReset_lineInv (h : exec (.line .rst .high) s = .next t) (hp : s.pc = .step 45) : t.LineInv := by
  rw [exec_line_next h, State.advance_eq (m := 46) (by rw [State.drive_pc, hp]) rfl]
  exact (State.lineInv_iff (n := 46) rfl).mpr ⟨nofun, fun _ => rfl, nofun⟩

/-- The idle drive of the command-select line, which leaves the reset line `High` (R115, D13). -/
theorem exec_idleSelect_keeps_lineInv (h : exec (.line .dc .high) s = .next t) (hs : s.LineInv)
    (hp : s.pc = .step 46) : t.LineInv := by
  have hr : s.rst = some .high := ((State.lineInv_iff hp).mp hs).2.1 rfl
  rw [exec_line_next h, State.advance_eq (m := 47) (by rw [State.drive_pc, hp]) rfl]
  exact (State.lineInv_iff (n := 47) rfl).mpr ⟨nofun, nofun, fun _ _ => ⟨hr, rfl⟩⟩

theorem exec_listing_keeps_lineInv (hp : s.pc = .step n) (hn : n ≠ 36)
    (h : exec (listing s.params s.bm.length n) s = .next t) (hs : s.LineInv) : t.LineInv := by
  rcases listing_cases s.params s.bm.length n hn with
    ⟨rfl, hl⟩ | ⟨_, h5, v, hl, hv⟩ | ⟨_, h6, h5, ms, hl⟩ | ⟨rfl, hl⟩ | ⟨h8, h43, -, -, -, -, k, b, hl⟩ | ⟨rfl, hl⟩ |
    ⟨rfl, hl⟩ | ⟨rfl, hl⟩ | ⟨rfl, hl⟩ | ⟨rfl, hl⟩ | ⟨rfl, hl⟩ | ⟨rfl, hl⟩ | ⟨rfl, hl⟩
  case inr.inr.inr.inr.inl =>
    rw [exec_sentSymbol hl] at h
    exact transferStep_keeps_lineInv h hs hp h8 h43
  all_goals rw [hl] at h
  · exact exec_check_lineInv h hp
  · exact exec_pulseLine_lineInv h hp h5 hv
  · exact exec_pulseDelay_keeps_lineInv h hs hp h6 h5
  · exact exec_openTransport_keeps_lineInv h hs hp
  · exact exec_wait_keeps_lineInv h hs hp (by decide) (by decide)
  · exact exec_wait_keeps_lineInv h hs hp (by decide) (by decide)
  · exact exec_commit_keeps_lineInv h hs hp
  · exact exec_wait_keeps_lineInv h hs hp (by decide) (by decide)
  · exact exec_closeTransport_keeps_lineInv h hs hp
  · exact exec_idleReset_lineInv h hp
  · exact exec_idleSelect_keeps_lineInv h hs hp
  · rw [exec_ret_next h]
    exact State.lineInv_of_idle rfl

theorem step_keeps_lineInv (h : step s = .next t) (hs : s.LineInv) : t.LineInv := by
  rcases step_cases h with ⟨-, rfl⟩ | ⟨-, bm, rest, -, h⟩ | ⟨hp, a, b, -, -, h⟩ | ⟨hp, -, rfl⟩ | ⟨n, hp, hn, h⟩
  · exact hs
  · obtain ⟨-, rfl⟩ := exec_update_next h
    exact State.lineInv_of_active (m := 0) rfl (by decide) nofun
  · exact exec_pixelByte_keeps_lineInv h hs hp
  · exact hs.of_inSession hp (by decide) (by decide) rfl rfl (State.advance_inSession hp (by decide) (by decide))
  · exact exec_listing_keeps_lineInv hp hn h hs

/-! ### The init stream -/

/-- The symbols of the power-on sequence: the open and the wait show none (R91). -/
theorem busSymbols_powerOn (p : Params) (dc : Option Level) :
    busSymbols p dc
        ([.openTransport 0 4000000 .ok] ++ goodTransfers p (initBeforeWait p) ++ [.wait 5000 .cleared] ++
          goodTransfers p (initAfterWait p)) =
      (initBeforeWait p ++ initAfterWait p).map (fun w => Symbol.mk w.1 w.2) := by
  have hopen := busSymbols_of_no_write p dc (es := [.openTransport 0 4000000 .ok]) rfl
  have hwait (d : Option Level) := busSymbols_of_no_write p d (es := [.wait 5000 .cleared]) rfl
  simp only [busSymbols_append, hopen, hwait, busSymbols_goodTransfers, List.nil_append, List.append_nil,
    List.map_append]

/-! ### The statements of the family -/

/-- Settles O6, by the kind of the step run. -/
theorem linesDuringAnUpdate : Obligations.LinesDuringAnUpdate := fun _ _ hs h => step_keeps_lineInv h hs

/-- Settles O21: RSTPULSE and the six steps both end in the state after the pulse. -/
theorem resetPulse : Obligations.ResetPulse := by
  intro s hp a na t
  have ht : s.pulsed = t := by rw [State.pulsed, flipLevel_eq]
  rw [← ht]
  exact ⟨exec_rstpulse hp, run_resetPulse hp⟩

/-- Settles O52: the run of the power-on sequence, and the symbols its events show. -/
theorem powerOnStream : Obligations.PowerOnStream := by
  intro s hp ho hr hw
  have hsym := busSymbols_powerOn s.params s.dc
  refine ⟨s.poweredOn, _, run_powerOn hp ho hr hw, rfl, rfl, rfl, rfl, rfl, rfl, rfl, hsym, ?_⟩
  rw [hsym, List.length_map]
  rfl

end Sys2Proof.Machine
end

section
/-!
SUPPORT. The transmission (42_transmission.md): one pass of the loop of S36, the whole loop of PIXELS and the steps that
run it, the encoder on a bitmap that is the Frame State, and the statements of the family settled from these.
-/

namespace Sys2Proof.Machine

variable {s t : State}

/-! ### One pass of the loop -/

/-- The packed byte, its two codes in bits 5 to 4 and 1 to 0 (R50). -/
theorem packCodes_eq_append (a b : PixelCode) : packCodes a b = 0#2 ++ a.bits ++ (0#2 ++ b.bits) := by
  cases a <;> cases b <;> rfl

/-- The end of a pass of the loop whose write failed (R102, R157). -/
theorem State.settlePixel_fail (hp : s.pc = .step 36) :
    s.settlePixel .fail = (s.withError .transportFailure).toStep 40 :=
  State.signal_raise hp (by decide) (by decide) _

/-- While a byte is left, a pass of the loop is a step of the machine (log 13). -/
theorem State.pixelPass_eq_step (hp : s.pc = .step 36) (hi : s.idx < Config.NB) : s.pixelPass = step s := by
  cases hc : s.codePair s.idx with
  | ok c => rw [State.pixelPass_of_codePair hc, step_pixel hp hi hc]
  | error f => simp only [State.pixelPass, step, State.fetch, hp, State.fetchPixel, hi, hc, if_true]

/-- A pass that stays in the loop has counted its byte (R16): a failure leaves it. -/
theorem State.pixelPass_idx (hp : s.pc = .step 36) (h : s.pixelPass = .next t) (ht : t.pc = .step 36) :
    t.idx = s.idx + 1 := by
  unfold State.pixelPass at h
  split at h
  next a b _ =>
    have hu : (s.transfer .data (packCodes a b)).pc = .step 36 := by rw [State.transfer_eq]; exact hp
    obtain rfl := exec_pixelByte_next h
    cases hr : s.transportAnswer with
    | ok =>
      rw [State.settlePixel_ok hu, State.transfer_eq]
      rfl
    | fail =>
      rw [hr, State.settlePixel_fail hu] at ht
      cases ht
  · cases h

/-- A pass whose write fails: the attempt, and control at `PD` (R102, R157). -/
theorem step_pixel_fail (hp : s.pc = .step 36) (ho : s.sessionOpen = true) (hb : s.bm.wf) (hf : s.FrameInv)
    (hi : s.idx < Config.NB) (hr : s.transportAnswer = .fail) :
    step s =
      .next (((s.sent .data (packedByte s.prevFrame s.bm s.idx)).withError .transportFailure).toStep 40) := by
  obtain ⟨a, b, hc, hpack⟩ := State.exists_codePair_eq hb hf hi
  have hq : (s.sent .data (packCodes a b)).pc = .step 36 := hp
  rw [step_pixel hp hi hc, exec_pixelByte hp ho, hr, State.settlePixel_fail hq, hpack]

/-! ### The loop, pass by pass -/

theorem pixelLoop_stay (k : Nat) (hp : s.pc = .step 36) (hi : s.idx < Config.NB) (h : step s = .next t)
    (ht : t.pc = .step 36) : pixelLoop (k + 1) s = pixelLoop k t := by
  rw [pixelLoop, State.pixelPass_eq_step hp hi, h]
  exact if_pos (ht.trans hp.symm)

theorem pixelLoop_leave (k : Nat) (hp : s.pc = .step 36) (hi : s.idx < Config.NB) (h : step s = .next t)
    (ht : t.pc ≠ .step 36) : pixelLoop (k + 1) s = .next t := by
  rw [pixelLoop, State.pixelPass_eq_step hp hi, h]
  exact if_neg (hp ▸ ht)

/-- A loop that answers is a run of the machine, one step for each pass (R15, log 13). -/
theorem exists_run_of_pixelLoop {k : Nat} (hp : s.pc = .step 36) (hi : s.idx + k = Config.NB)
    (h : pixelLoop k s = .next t) : ∃ j ≤ k, core.run j s = .next t := by
  induction k generalizing s with
  | zero => exact ⟨0, Nat.le_refl 0, h⟩
  | succ k ih =>
    have hlt : s.idx < Config.NB := by omega
    have hpass := State.pixelPass_eq_step hp hlt
    cases hs : step s with
    | next u =>
      by_cases hu : u.pc = .step 36
      · have hidx : u.idx = s.idx + 1 := State.pixelPass_idx hp (hpass.trans hs) hu
        rw [pixelLoop_stay k hp hlt hs hu] at h
        obtain ⟨j, hj, hrun⟩ := ih hu (by omega) h
        exact ⟨j + 1, Nat.succ_le_succ hj, (run_succ j hs).trans hrun⟩
      · rw [pixelLoop_leave k hp hlt hs hu] at h
        exact ⟨1, by omega, (run_one hs).trans h⟩
    | fault f =>
      rw [pixelLoop, hpass, hs] at h
      cases h
    | refused r =>
      rw [pixelLoop, hpass, hs] at h
      cases h

/-- `s` after `r` bytes of the stream, all `Ok`, still in the loop (R102). -/
def State.inStream (s : State) (r : Nat) : State :=
  (s.streamed .data (pixelWrites s.prevFrame s.bm s.idx r)).inLoop (.step 36) (s.idx + r)

theorem pixelWrites_add (prev : Option Memory) (bm : Memory) (i q r : Nat) :
    pixelWrites prev bm i (q + r) = pixelWrites prev bm i q ++ pixelWrites prev bm (i + q) r := by
  rw [pixelWrites, ← List.range'_append_1, List.map_append, pixelWrites, pixelWrites]

/-- The first `j` bytes of the stream. -/
theorem pixelWrites_take (prev : Option Memory) (bm : Memory) {j : Nat} (hj : j ≤ Config.NB) :
    ((packedStream prev bm).map (fun b => ((.data, b) : Select × Byte))).take j = pixelWrites prev bm 0 j := by
  obtain ⟨r, hr⟩ := Nat.exists_eq_add_of_le hj
  rw [← pixelWrites_all, hr, pixelWrites_add, List.take_left' (pixelWrites_length _ _ _ _)]

theorem State.inStream_inStream (s : State) (q r : Nat) : (s.inStream q).inStream r = s.inStream (q + r) := by
  rw [State.inStream, State.inStream, State.inStream, pixelWrites_add, ← State.streamed_streamed s .data .data,
    ← Nat.add_assoc]
  rfl

theorem State.OkFor.inStream {q r : Nat} (h : s.OkFor (q + r)) : (s.inStream q).OkFor r :=
  State.OkFor.streamed (ws := pixelWrites s.prevFrame s.bm s.idx q) (by rwa [pixelWrites_length]) .data

/-- A pass whose write succeeds, with a byte left after it, stays in the loop. -/
theorem step_pixel_inStream (hp : s.pc = .step 36) (ho : s.sessionOpen = true) (hb : s.bm.wf) (hf : s.FrameInv)
    (hi : s.idx + 1 < Config.NB) (hr : s.transportAnswer = .ok) : step s = .next (s.inStream 1) := by
  rw [step_pixel_ok hp ho hb hf (by omega) hr, if_pos hi]
  rfl

/-- Writes that succeed, with a byte left after them, keep the loop going. -/
theorem pixelLoop_inStream {r : Nat} (k : Nat) (hp : s.pc = .step 36) (ho : s.sessionOpen = true) (hb : s.bm.wf)
    (hf : s.FrameInv) (hi : s.idx + (r + 1) < Config.NB) (hr : s.OkFor (r + 1)) :
    pixelLoop (r + 1 + k) s = pixelLoop k (s.inStream (r + 1)) := by
  induction r generalizing s with
  | zero =>
    rw [Nat.zero_add, Nat.add_comm]
    exact pixelLoop_stay k hp (by omega) (step_pixel_inStream hp ho hb hf hi (hr.head Nat.zero_lt_one)) rfl
  | succ r ih =>
    have hs := step_pixel_inStream hp ho hb hf (by omega) (hr.head (Nat.succ_pos _))
    have hr' : (s.inStream 1).OkFor (r + 1) := (hr.mono (Nat.le_of_eq (Nat.add_comm _ _))).inStream
    have hi' : s.idx + 1 + (r + 1) < Config.NB := by omega
    calc pixelLoop (r + 1 + 1 + k) s
      _ = pixelLoop (r + 1 + k + 1) s := by rw [Nat.add_right_comm]
      _ = pixelLoop (r + 1 + k) (s.inStream 1) := pixelLoop_stay _ hp (by omega) hs rfl
      _ = pixelLoop k ((s.inStream 1).inStream (r + 1)) := ih rfl ho hb hf hi' hr'
      _ = pixelLoop k (s.inStream (r + 1 + 1)) := by rw [State.inStream_inStream, Nat.add_comm]

/-- The rest of the stream, all `Ok`: S37 is next (R102). -/
theorem pixelLoop_ok {r : Nat} (hp : s.pc = .step 36) (ho : s.sessionOpen = true) (hb : s.bm.wf) (hf : s.FrameInv)
    (hi : s.idx + (r + 2) = Config.NB) (hr : s.OkFor (r + 2)) :
    pixelLoop (r + 2) s =
      .next ((s.streamed .data (pixelWrites s.prevFrame s.bm s.idx (r + 2))).inLoop (.step 37) Config.NB) := by
  let u := s.inStream (r + 1)
  have hu : u.idx + 1 = Config.NB := hi
  have hlast : step u = .next ((u.streamed .data [(.data, packedByte u.prevFrame u.bm u.idx)]).inLoop (.step 37)
      Config.NB) := by
    have hru : u.OkFor 1 := State.OkFor.inStream (q := r + 1) hr
    rw [step_pixel_ok (s := u) rfl ho hb hf (by omega) (hru.head Nat.zero_lt_one), if_neg (by omega), hu]
  rw [pixelLoop_inStream (r := r) 1 hp ho hb hf (by omega) (hr.mono (Nat.le_succ _)),
    pixelLoop_leave 0 rfl (by omega) hlast nofun, pixelWrites_add _ _ _ (r + 1) 1,
    ← State.streamed_streamed s .data .data]
  rfl

/-- The whole stream, all `Ok` (R102). -/
theorem pixelLoop_stream (hp : s.pc = .step 36) (hi : s.idx = 0) (ho : s.sessionOpen = true) (hb : s.bm.wf)
    (hf : s.FrameInv) (hr : s.OkFor Config.NB) :
    pixelLoop Config.NB s =
      .next ((s.streamed .data (pixelWrites s.prevFrame s.bm 0 Config.NB)).inLoop (.step 37) Config.NB) := by
  have h := pixelLoop_ok (r := 122878) hp ho hb hf (by rw [hi]) hr
  rw [hi] at h
  exact h

theorem State.inStream_transportAnswer (s : State) (j : Nat) :
    (s.inStream j).transportAnswer = s.transportAnswerAt j := by
  rw [← State.transportAnswerAt_zero]
  simp [State.inStream, State.inLoop, State.streamed, State.transportAnswerAt]

/-- A transfer drives both its lines, so after no byte of the stream it does what it does before. -/
theorem State.inStream_zero_sent (hp : s.pc = .step 36) (k : Select) (b : Byte) :
    (s.inStream 0).sent k b = s.sent k b := by
  rw [State.sent, State.inStream_transportAnswer, State.transportAnswerAt_zero]
  simp [State.inStream, State.inLoop, State.streamed, State.sent, pixelWrites, goodTransfers, hp]

/-- A loop whose first bad write is that of byte `j` from here on: the bytes before it, the attempt, and `PD` (R102,
R157). -/
theorem pixelLoop_fail {j k : Nat} (hp : s.pc = .step 36) (ho : s.sessionOpen = true) (hb : s.bm.wf)
    (hf : s.FrameInv) (hi : s.idx + j < Config.NB) (hr : s.OkFor j) (hfail : s.transportAnswerAt j = .fail) :
    pixelLoop (j + (k + 1)) s =
      .next ((((s.inStream j).sent .data (packedByte s.prevFrame s.bm (s.idx + j))).withError
        .transportFailure).toStep 40) := by
  cases j with
  | zero =>
    rw [State.transportAnswerAt_zero] at hfail
    rw [Nat.zero_add, State.inStream_zero_sent hp]
    exact pixelLoop_leave k hp hi (step_pixel_fail hp ho hb hf hi hfail) nofun
  | succ r =>
    rw [← State.inStream_transportAnswer] at hfail
    rw [pixelLoop_inStream (k + 1) hp ho hb hf hi hr]
    exact pixelLoop_leave k rfl hi (step_pixel_fail (s := s.inStream (r + 1)) rfl ho hb hf hi hfail) nofun

/-- PIXELS inside an update is the loop from byte 0 (R102). -/
theorem exec_pixels {n : Fin 48} (hp : s.pc = .step n) : exec .pixels s = pixelLoop Config.NB { s with idx := 0 } :=
  State.duringUpdate_step hp _

/-! ### The encoder on a bitmap that is the Frame State -/

/-- The code of an unchanged pixel is the no-refresh code of its colour (R121). -/
theorem code1_unchanged (x : Bool) : (code1 x (some x)).isNoRefresh = true ∧ (code1 x (some x)).isBlack = x := by
  cases x <;> decide

/-- With a bitmap in flight that is the Frame State every code is a no-refresh code of its pixel (R107 (a)). -/
theorem State.codeAt_noRefresh {i : Nat} (hb : s.bm.wf) (hv : s.fsValid = true) (hf : s.fs = s.bm)
    (hi : i < Config.N) : ∃ c, s.codeAt i = .ok c ∧ c.isNoRefresh = true ∧ some c.isBlack = s.bm[i]? := by
  obtain ⟨hrefresh, hblack⟩ := code1_unchanged (s.bm.getD i false)
  refine ⟨_, ?_, hrefresh, ?_⟩
  · rw [State.codeAt_eq hb (fun _ => hf ▸ hb) hi, State.prevFrame, if_pos hv, hf]
    rfl
  · have hlt : i < s.bm.length := hb ▸ hi
    rw [hblack, List.getD_eq_getElem _ _ hlt, List.getElem?_eq_getElem hlt]

/-- And a step of S36 sends two of them. -/
theorem step_noRefresh (hb : s.bm.wf) (hv : s.fsValid = true) (hf : s.fs = s.bm) (hp : s.pc = .step 36)
    (hi : s.idx < Config.NB) :
    ∃ a b, step s = exec (.pixelByte a b) s ∧ a.isNoRefresh = true ∧ b.isNoRefresh = true := by
  have h1 : 2 * s.idx + 1 < Config.N := by simp only [Config.N, Config.NB] at *; omega
  obtain ⟨a, ha, harefresh, -⟩ := State.codeAt_noRefresh hb hv hf (Nat.lt_of_succ_lt h1)
  obtain ⟨b, hcb, hbrefresh, -⟩ := State.codeAt_noRefresh hb hv hf h1
  exact ⟨a, b, step_pixel hp hi (by rw [State.codePair, ha, hcb]), harefresh, hbrefresh⟩

/-- `s` at the first byte of the stream of the request `bm` (R65 to R102). -/
def State.atStream (s : State) (bm : Memory) (rest : List Memory) : State :=
  ((s.accepted bm rest).pulsed.poweredOn.streamed .command [(.command, 0x10)]).toStep 36

/-- From IDLE to S36, with no failure and no time-out (R67). -/
theorem run_atStream {bm : Memory} {rest : List Memory} (hs : s.Inv) (hp : s.pc = .idle)
    (hreq : s.requests = bm :: rest) (hb : bm.wf) (hr : s.OkFor 28) (hw : s.waitAnswer = .cleared) :
    core.run 37 s = .next (s.atStream bm rest) := by
  let a := (s.accepted bm rest).pulsed
  have ho : a.sessionOpen = false := (State.sessionInv_iff.mp hs.session).trans (by rw [hp]; rfl)
  have hr7 : a.OkFor (27 + 1) := hr
  have hr35 : a.poweredOn.OkFor 1 := hr7.drop rfl rfl
  have h0 : core.run 2 s = .next (s.accepted bm rest) := run_accept hp hreq hb
  have h1 : core.run 6 (s.accepted bm rest) = .next a := run_resetPulse rfl
  have h7 : core.run 28 a = .next a.poweredOn := run_powerOn rfl ho (hr7.mono (by decide)) hw
  have h35 : step a.poweredOn = .next (s.atStream bm rest) :=
    step_transfer_ok rfl rfl rfl rfl (hr35.head Nat.zero_lt_one)
  rw [run_add 35 h0, run_add 29 h1, run_add 1 h7, run_one h35]

/-! ### The statements of the family -/

/-- Settles O38, by the outcome drawn: a transfer, then the end of one pass. -/
theorem pixelByteIsOnePassOfTheLoop : Obligations.PixelByteIsOnePassOfTheLoop := by
  intro s a b hp ho
  have hu : (s.sent .data (0#2 ++ a.bits ++ (0#2 ++ b.bits))).pc = .step 36 := hp
  rw [exec_pixelByte hp ho, packCodes_eq_append]
  cases hr : s.transportAnswer with
  | ok =>
    rw [State.settlePixel_ok hu]
    rfl
  | fail =>
    rw [State.settlePixel_fail hu]
    rfl

/-- Settles O39: the loop from byte 0, by the outcomes drawn. -/
theorem pixelsSendsTheStream : Obligations.PixelsSendsTheStream := by
  intro s hp ho hb hf stream
  let s0 : State := { s with idx := 0 }
  rw [exec_pixels hp]
  refine ⟨fun hr => ?_, fun j hj hr hfail => ?_⟩
  · rw [pixelLoop_stream (s := s0) hp rfl ho hb hf hr, State.streamed, pixelWrites_length, pixelWrites_all]
    rfl
  · obtain ⟨k, hk⟩ := Nat.exists_eq_add_of_lt hj
    have hloop := pixelLoop_fail (s := s0) (k := k) hp ho hb hf (by simpa [s0] using hj) hr hfail
    have ha : (s0.inStream j).transportAnswer = .fail := (s0.inStream_transportAnswer j).trans hfail
    rw [hk, Nat.add_assoc, hloop, State.sent, ha, pixelWrites_take _ _ hj.le]
    simp [s0, State.inStream, State.inLoop, State.streamed, State.withError, State.toStep, State.prevFrame,
      Nat.add_assoc]

/-- Settles O40: the loop of PIXELS from byte 0 is a run of the machine. -/
theorem stepsAtS36RunPixels : Obligations.StepsAtS36RunPixels := by
  intro s t hp hi h
  have hs : { s with idx := 0 } = s := by rw [← hi]
  rw [exec_pixels hp, hs] at h
  exact exists_run_of_pixelLoop hp (by rw [hi, Nat.zero_add]) h

/-- Settles O37: after a commit of the bitmap in flight, and at S36 after a request of the Frame State, the bitmap is
the Frame State. -/
theorem secondUpdateIsAllNoRefresh : Obligations.SecondUpdateIsAllNoRefresh := by
  refine ⟨fun s t u h hfs hfv hbm => ?_, fun s rest hs hp hreq hv hr hw => ?_⟩
  · obtain ⟨hb, rfl⟩ := exec_commit_next h
    have hbu : u.bm.wf := hbm ▸ hb
    have hfu : u.fs = u.bm := hfs.trans hbm.symm
    exact ⟨fun i hi => hbm ▸ State.codeAt_noRefresh hbu hfv hfu hi, fun hp hi => step_noRefresh hbu hfv hfu hp hi⟩
  · refine ⟨s.atStream s.fs rest, run_atStream hs hp hreq hs.store hr hw, rfl, rfl, rfl, rfl, rfl, hv, fun i hi => ?_⟩
    obtain ⟨c, hc, hrefresh, -⟩ := State.codeAt_noRefresh (s := s.atStream s.fs rest) hs.store hv rfl hi
    exact ⟨c, hc, hrefresh⟩

end Sys2Proof.Machine
end

section
/-!
SUPPORT. Power-down (43_power_down.md): the sequence S40 to S44 whatever the transport and the wait answer, as one
equation of states, the two idle drives, the way to S40 from every earlier step of the session, and the statements of
the family settled from these.
-/

namespace Sys2Proof.Machine

variable {s t : State} {n m : Fin 48}

/-! ### One step of the power-down sequence -/

/-- `err` after a transport call inside the power-down sequence: the first error stays (R158, R156 (c)). -/
def errAfterCall (e : Option ErrorKind) : TransportOutcome → Option ErrorKind
  | .ok => e
  | .fail => some (e.getD .transportFailure)

/-- `s` with the outcome `r` of a call of the power-down sequence taken (R158). -/
def State.callNoted (s : State) (r : TransportOutcome) : State := { s with err := errAfterCall s.err r }

/-- Inside the power-down sequence a call is followed by the next step, on either outcome (R158, D11). -/
theorem State.settle_of_powerDown (hp : s.pc = .step n) (hm : m.val = n.val + 1) (h40 : 40 ≤ n.val)
    (r : TransportOutcome) : s.settle r = (s.callNoted r).toStep m := by
  cases r with
  | ok => exact State.advance_eq hp hm
  | fail => exact State.signal_latch hp h40 hm _

/-- `s` after a transfer with the outcome `r` inside the power-down sequence (R136, R158). -/
def State.powerDownSent (s : State) (k : Select) (b : Byte) (r : TransportOutcome) : State :=
  { s.callNoted r with
    trace := s.trace ++ transferEvents s.params k b r
    dc := some (dcFor s.params k), cs := some (csAfter s.params r)
    transportAnswers := s.transportAnswers.tail, transportDraws := s.transportDraws + 1 }

@[simp] theorem State.powerDownSent_sessionOpen (s : State) (k : Select) (b : Byte) (r : TransportOutcome) :
    (s.powerDownSent k b r).sessionOpen = s.sessionOpen := rfl

/-- A transfer draws one outcome. -/
@[simp] theorem State.powerDownSent_transportAnswerAt (s : State) (k : Select) (b : Byte) (r : TransportOutcome)
    (j : Nat) : (s.powerDownSent k b r).transportAnswerAt j = s.transportAnswerAt (j + 1) :=
  s.sent_transportAnswerAt k b j

@[simp] theorem State.toStep_transportAnswerAt (s : State) (m : Fin 48) (j : Nat) :
    (s.toStep m).transportAnswerAt j = s.transportAnswerAt j := rfl

/-- A step of the power-down sequence that sends a symbol goes on to the next one, on either outcome (R158, D11). -/
theorem step_powerDown_transfer {k : Select} {b : Byte} {r : TransportOutcome} (hp : s.pc = .step n)
    (hm : m.val = n.val + 1) (h40 : 40 ≤ n.val)
    (hl : sentSymbol s.params (listing s.params s.bm.length n) = some (k, b)) (ho : s.sessionOpen = true)
    (hr : s.transportAnswer = r) : step s = .next ((s.powerDownSent k b r).toStep m) := by
  have hq : (s.sent k b).pc = .step n := hp
  rw [step_listing hp (ne_of_sentSymbol hl).2, exec_sentSymbol hl, State.transferStep_open hp ho,
    State.settle_of_powerDown hq hm h40, State.sent, hr]
  rfl

/-- The events of the wait of S41: a time-out logs its warning (R112, R141). -/
def powerOffWaitEvents (o : WaitOutcome) : List Event :=
  .wait 5000 o :: if o = .timedOut then [.log .warning .powerOffTimeout] else []

/-- `s` after the wait of S41 with the outcome `o` (R112). -/
def State.powerOffWaited (s : State) (o : WaitOutcome) : State :=
  { s with
    trace := s.trace ++ powerOffWaitEvents o, waitAnswers := s.waitAnswers.tail, waitDraws := s.waitDraws + 1 }

@[simp] theorem State.powerOffWaited_sessionOpen (s : State) (o : WaitOutcome) :
    (s.powerOffWaited o).sessionOpen = s.sessionOpen := rfl

@[simp] theorem State.powerOffWaited_transportAnswerAt (s : State) (o : WaitOutcome) (j : Nat) :
    (s.powerOffWaited o).transportAnswerAt j = s.transportAnswerAt j := rfl

/-- The wait of S41 goes on to S42, on either outcome (R112, R139). -/
theorem step_powerOffWait {o : WaitOutcome} (hp : s.pc = .step 41) (hw : s.waitAnswer = o) :
    step s = .next ((s.powerOffWaited o).toStep 42) := by
  have hl : listing s.params s.bm.length 41 = .wait 5000 (.warn .powerOffTimeout) := rfl
  have hq : (s.powerOffWaited o).pc = .step 41 := hp
  have hwait : (s.takeWait.emit (.wait 5000 o)).settleWait o (.warn .powerOffTimeout) =
      (s.powerOffWaited o).advance := by
    cases o with
    | cleared => rfl
    | timedOut =>
      simp [State.settleWait, State.powerOffWaited, powerOffWaitEvents, State.takeWait, State.emit, warningCondition]
  rw [step_listing hp (by decide), hl, exec_wait hp, hw, hwait, State.advance_eq (m := 42) hq rfl]

/-- The close of S44 leaves no session and goes on to S45, on either outcome (R114, R140, D11). -/
theorem step_close {r : TransportOutcome} (hp : s.pc = .step 44) (ho : s.sessionOpen = true)
    (hr : s.transportAnswer = r) :
    step s =
      .next ((((s.takeTransport.emit (.closeTransport r)).setSession false).callNoted r).toStep 45) := by
  have hl : listing s.params s.bm.length 44 = .closeTransport := rfl
  have hq : ((s.takeTransport.emit (.closeTransport r)).setSession false).pc = .step 44 := hp
  rw [step_listing hp (by decide), hl, exec_closeTransport hp ho, hr,
    State.settle_of_powerDown (m := 45) hq rfl (by decide)]

/-! ### The power-down sequence, whatever fails -/

/-- The events of S40 to S43, by the outcomes drawn there (R111 to R113). -/
def State.powerDownEvents (s : State) : List Event :=
  transferEvents s.params .command 0x02 (s.transportAnswerAt 0) ++ powerOffWaitEvents s.waitAnswer ++
    transferEvents s.params .command 0x07 (s.transportAnswerAt 1) ++
    transferEvents s.params .data 0xA5 (s.transportAnswerAt 2)

/-- `s` after S40 to S44, whatever was answered there (R110, R111 to R114, R158). -/
def State.shutDown (s : State) : State :=
  { s with
    sessionOpen := false, pc := .step 45, dc := some (dcFor s.params .data)
    cs := some (csAfter s.params (s.transportAnswerAt 2))
    err := [0, 1, 2, 3].foldl (fun e j => errAfterCall e (s.transportAnswerAt j)) s.err
    trace := s.trace ++ s.powerDownEvents ++ [.closeTransport (s.transportAnswerAt 3)]
    transportAnswers := s.transportAnswers.drop 4, transportDraws := s.transportDraws + 4
    waitAnswers := s.waitAnswers.tail, waitDraws := s.waitDraws + 1 }

/-- S40 to S44: all five steps run, whatever the transport and the wait answer (R110, R158). -/
theorem run_shutDown (hp : s.pc = .step 40) (ho : s.sessionOpen = true) : core.run 5 s = .next s.shutDown := by
  let s41 := (s.powerDownSent .command 0x02 (s.transportAnswerAt 0)).toStep 41
  let s42 := (s41.powerOffWaited s.waitAnswer).toStep 42
  let s43 := (s42.powerDownSent .command 0x07 (s.transportAnswerAt 1)).toStep 43
  let s44 := (s43.powerDownSent .data 0xA5 (s.transportAnswerAt 2)).toStep 44
  have ho42 : s42.sessionOpen = true := by simp [s42, s41, ho]
  have ho43 : s43.sessionOpen = true := by simp [s43, ho42]
  have ho44 : s44.sessionOpen = true := by simp [s44, ho43]
  have hr42 (j : Nat) : s42.transportAnswerAt j = s.transportAnswerAt (j + 1) := by simp [s42, s41]
  have hr43 (j : Nat) : s43.transportAnswerAt j = s.transportAnswerAt (j + 2) := by simp [s43, hr42]
  have hr44 (j : Nat) : s44.transportAnswerAt j = s.transportAnswerAt (j + 3) := by simp [s44, hr43]
  have h40 : step s = .next s41 :=
    step_powerDown_transfer hp rfl (by decide) rfl ho s.transportAnswerAt_zero.symm
  have h41 : step s41 = .next s42 := step_powerOffWait rfl rfl
  have h42 : step s42 = .next s43 := step_powerDown_transfer rfl rfl (by decide) rfl ho42
    (s42.transportAnswerAt_zero.symm.trans (hr42 0))
  have h43 : step s43 = .next s44 := step_powerDown_transfer rfl rfl (by decide) rfl ho43
    (s43.transportAnswerAt_zero.symm.trans (hr43 0))
  have h44 := step_close (s := s44) rfl ho44 (s44.transportAnswerAt_zero.symm.trans (hr44 0))
  rw [run_succ 4 h40, run_succ 3 h41, run_succ 2 h42, run_succ 1 h43, run_one h44]
  have hdrop : s.transportAnswers.tail.tail.tail.tail = s.transportAnswers.drop 4 := by
    simp only [← List.drop_one, List.drop_drop]
  simp [hdrop, s41, s42, s43, s44, State.shutDown, State.powerDownEvents, State.powerDownSent, State.powerOffWaited,
    State.callNoted, State.toStep, State.emit, State.takeTransport, State.setSession]

/-! ### The two idle drives -/

/-- `s` after the two idle drives (R115). -/
def State.linesIdle (s : State) : State :=
  { s with
    pc := .step 47, rst := some .high, dc := some .high
    trace := s.trace ++ [.line .rst .high, .line .dc .high] }

/-- S45 and S46 (R115, D13). -/
theorem run_idleDrives (hp : s.pc = .step 45) : core.run 2 s = .next s.linesIdle := by
  have h45 : step s = .next ((s.drive .rst .high).toStep 46) := step_line hp rfl (by decide) rfl
  have h46 : step ((s.drive .rst .high).toStep 46) =
      .next ((((s.drive .rst .high).toStep 46).drive .dc .high).toStep 47) := step_line rfl rfl (by decide) rfl
  rw [run_succ 1 h45, run_one h46]
  simp [State.linesIdle, State.drive, State.setLine, State.emit, State.toStep]

/-- A drive of a line to the level it has is unobservable (R131). -/
theorem observable_line_of_same {rst dc cs : Option Level} {l : Line} {v : Level}
    (h : lineLevel rst dc cs l = some v) (es : List Event) :
    observable rst dc cs (.line l v :: es) = observable rst dc cs es := by
  rw [observable, if_pos h]
  cases l <;> simp_all [lineLevel]

/-! ### What the events of power-down show -/

/-- The bytes of the power-down sequence, the failed attempts included (R110, R72). -/
theorem writtenBytes_powerDownEvents (s : State) : writtenBytes s.powerDownEvents = [0x02, 0x07, 0xA5] := by
  have hwait : writtenBytes (powerOffWaitEvents s.waitAnswer) = [] := by cases s.waitAnswer <;> rfl
  simp only [State.powerDownEvents, writtenBytes_append, writtenBytes_transferEvents, hwait]
  rfl

/-! ### The way to the power-down sequence -/

/-- From S08 to S39 control stays inside the session, and enters the power-down sequence at S40 only (R69). -/
theorem State.exists_nextPc_le_powerDown (s : State) (h8 : 8 ≤ n.val) (h39 : n.val ≤ 39) :
    ∃ m : Fin 48, s.nextPc n = .step m ∧ 8 ≤ m.val ∧ m.val ≤ 40 := by
  have hlt : n.val + 1 < 48 := by omega
  have hnext : ∃ m : Fin 48, (Pc.step n).next = .step m ∧ 8 ≤ m.val ∧ m.val ≤ 40 :=
    ⟨⟨n.val + 1, hlt⟩, Pc.next_step rfl, Nat.le_succ_of_le h8, Nat.succ_le_succ h39⟩
  have hdown : ∃ m : Fin 48, Pc.step 40 = .step m ∧ 8 ≤ m.val ∧ m.val ≤ 40 :=
    ⟨40, rfl, by decide, by decide⟩
  by_cases h19 : n = 19
  · subst h19
    rw [s.nextPc_initWait]
    split
    · exact hnext
    · exact hdown
  by_cases h36 : n = 36
  · subst h36
    rw [s.nextPc_pixels]
    split_ifs
    · exact ⟨36, rfl, by decide, by decide⟩
    · exact hnext
    · exact hdown
  by_cases h37 : n.val ≤ 37
  · rw [s.nextPc_of_transfer h8 h37 h19 h36]
    split
    · exact hnext
    · exact hdown
  · rw [s.nextPc_of_always (by rintro rfl; contradiction) (.inr (by omega))]
    exact hnext

/-- From S08 to S40 of a state that meets the invariant the block comes to S40, whatever is answered (R110, R157). -/
theorem exists_run_to_powerDown (hs : s.Inv) (hp : s.pc = .step n) (h8 : 8 ≤ n.val) (h40 : n.val ≤ 40) :
    ∃ (k : Nat) (t : State), k + t.stepsLeft ≤ s.stepsLeft ∧ core.run k s = .next t ∧ t.pc = .step 40 ∧
      t.Inv ∧ s.trace <+: t.trace := by
  induction hl : s.stepsLeft using Nat.strong_induction_on generalizing s n with
  | _ l ih =>
    by_cases hn : n = 40
    · subst hn
      exact ⟨0, s, by omega, rfl, hp, hs, List.prefix_rfl⟩
    · obtain ⟨u, hu, hf, hbm⟩ := step_flows hs hp
      obtain ⟨m, hm, hm8, hm40⟩ := s.exists_nextPc_le_powerDown h8 (by omega)
      have hlt := hf.stepsLeft_lt hs hp
      obtain ⟨k, t, hk, hrun, ht, hti, htrace⟩ :=
        ih _ (hl ▸ hlt) (hf.inv hs hp hbm hu) (hf.pc.trans hm) hm8 hm40 rfl
      exact ⟨k + 1, t, by omega, (run_succ k hu).trans hrun, ht, hti, (step_trace_prefix hu).trans htrace⟩

/-! ### The statements of the family -/

/-- Settles O53: the power-down sequence with all calls `Ok`, then the two idle drives. -/
theorem powerDownStream : Obligations.PowerDownStream := by
  intro s hp ho hr
  have hrun : core.run 7 s = .next s.shutDown.linesIdle := by
    rw [run_add 2 (run_shutDown hp ho), run_idleDrives rfl]
  refine ⟨_, _, hrun, rfl, rfl, ?_, rfl, rfl, rfl, rfl, ?_, rfl, ?_⟩
  · simp [State.linesIdle, State.shutDown, errAfterCall, hr]
  · simp [State.linesIdle, State.shutDown, State.powerDownEvents, powerOffWaitEvents, goodTransfers, hr]
  · have hlog :
        writtenBytes (if s.waitAnswer = .timedOut then [.log .warning .powerOffTimeout] else []) = [] := by
      split <;> rfl
    have hquiet {es : List Event} (h : writtenBytes es = []) (d : Option Level) := busSymbols_of_no_write s.params d h
    simp only [List.flatten_cons, List.flatten_nil, busSymbols_append, busSymbols_goodTransfers, List.append_nil]
    rw [hquiet rfl, hquiet hlog, hquiet rfl]
    rfl

/-- Settles O54: both lines are `High` already. -/
theorem idleDrivesAreQuietByDefault : Obligations.IdleDrivesAreQuietByDefault := by
  intro s hs hp hra hdc hd
  have hrst : s.rst = some .high := by
    rw [((State.lineInv_iff hp).mp hs).1 (by decide) (by decide), hra]
  have hdc : s.dc = some .high := by rw [hd, dcFor, hdc]; rfl
  refine ⟨_, _, run_idleDrives hp, rfl, rfl, rfl, ?_, hrst.symm, hdc.symm⟩
  calc observable s.rst s.dc s.cs [.line .rst .high, .line .dc .high]
    _ = observable s.rst s.dc s.cs [.line .dc .high] := observable_line_of_same (l := .rst) hrst _
    _ = observable s.rst s.dc s.cs [] := observable_line_of_same (l := .dc) hdc _
    _ = [] := rfl

/-- Settles O57: the block comes to S40, and from there runs the whole power-down sequence. -/
theorem powerDownRunsOnEveryPath : Obligations.PowerDownRunsOnEveryPath := by
  intro s n hs hp h8 h40
  obtain ⟨k, u, hk, hrun, hu, hui, es, hes⟩ := exists_run_to_powerDown hs hp h8 h40
  have ho : u.sessionOpen = true := hui.sessionOpen_true hu (by decide) (by decide)
  have hleft : u.stepsLeft = 8 := State.stepsLeft_step hu
  have hbound := s.stepsLeft_le
  refine ⟨k + 5, u.shutDown, es ++ u.powerDownEvents, writtenBytes es, u.transportAnswerAt 3, by omega,
    (run_add 5 hrun).trans (run_shutDown hu ho), rfl, rfl, ?_, ?_⟩
  · rw [← List.append_assoc, hes]
    rfl
  · rw [writtenBytes_append, writtenBytes_powerDownEvents]

end Sys2Proof.Machine
end

section
/-!
SUPPORT. The encoder (44_encoder.md): what the code of a pixel says of the pixel and of the prior pixel, the gate form,
the two nibbles of a packed byte, the codes of the stream read back, and the statements of the family settled from these.
-/

namespace Sys2Proof.Machine

variable {s : State} {i k : Nat}

/-! ### The code of one pixel -/

@[simp] theorem code1_isBlack (x : Bool) (prev : Option Bool) : (code1 x prev).isBlack = x := by
  cases x <;> rcases prev with _ | _ | _ <;> rfl

/-- A no-refresh code says that there is a prior pixel and that it is the same (R121, R125). -/
theorem code1_isNoRefresh_iff (x : Bool) (prev : Option Bool) :
    (code1 x prev).isNoRefresh = true ↔ prev = some x := by
  cases x <;> rcases prev with _ | _ | _ <;> decide

theorem code1_none_isNoRefresh (x : Bool) : (code1 x none).isNoRefresh = false :=
  Bool.eq_false_iff.mpr fun h => nomatch (code1_isNoRefresh_iff x none).mp h

/-- The two gates give the code that R121 chooses, with the prior pixel present exactly when `v` (R122). -/
theorem codeGate_eq_code1 (p q v : Bool) : codeGate p q v = (code1 p (if v then some q else none)).bits := by
  cases p <;> cases q <;> cases v <;> rfl

theorem codeGate_getLsbD_one (p q v : Bool) : (codeGate p q v).getLsbD 1 = !p := by
  rw [codeGate, BitVec.getLsbD_append]
  simp

theorem codeGate_getLsbD_zero (p q v : Bool) : (codeGate p q v).getLsbD 0 = (!p ^^ (v && !(p ^^ q))) := by
  rw [codeGate, BitVec.getLsbD_append]
  simp

/-! ### CODE and PACK of the stores -/

/-- With no Frame State the store is not read (R120, R33). -/
theorem State.code_of_fsValid_false (hv : s.fsValid = false) (pixel : Bool) (index : Nat) :
    s.code pixel index = .ok (code1 pixel none) := by
  rw [State.code, hv]
  rfl

theorem State.code_of_fsValid_true {q : Bool} (hv : s.fsValid = true) (hq : s.fs.read i = some q) (pixel : Bool) :
    s.code pixel i = .ok (code1 pixel (some q)) := by
  rw [State.code, if_pos hv, hq]

theorem State.pack_eq (hb : s.bm.wf) (hf : s.FrameInv) (hk : k < Config.NB) :
    s.pack k = .ok (packedByte s.prevFrame s.bm k) := by
  obtain ⟨a, b, hc, hpack⟩ := State.exists_codePair_eq hb hf hk
  rw [State.pack, hc, ← hpack]

/-! ### The packed byte and the stream -/

theorem packCodes_highNibble (a b : PixelCode) : (packCodes a b).extractLsb' 4 4 = 0#2 ++ a.bits := by
  cases a <;> cases b <;> rfl

theorem packCodes_lowNibble (a b : PixelCode) : (packCodes a b).extractLsb' 0 4 = 0#2 ++ b.bits := by
  cases a <;> cases b <;> rfl

@[simp] theorem evenCode_packedByte_isBlack (prev : Option Memory) (bm : Memory) (k : Nat) :
    (evenCode (packedByte prev bm k)).isBlack = bm.getD (2 * k) false := by
  rw [packedByte, evenCode_packCodes, code1_isBlack]

@[simp] theorem oddCode_packedByte_isBlack (prev : Option Memory) (bm : Memory) (k : Nat) :
    (oddCode (packedByte prev bm k)).isBlack = bm.getD (2 * k + 1) false := by
  rw [packedByte, oddCode_packCodes, code1_isBlack]

/-- The values at `2k` and `2k + 1`, for every `k` below `n`, are the values below `2n` in order. -/
theorem flatMap_pairs_range {α : Type} (f : Nat → α) (n : Nat) :
    (List.range n).flatMap (fun k => [f (2 * k), f (2 * k + 1)]) = (List.range (2 * n)).map f := by
  induction n with
  | zero => rfl
  | succ n ih =>
    rw [List.range_succ, List.flatMap_append, ih, Nat.mul_succ, List.range_succ, List.range_succ]
    simp

theorem Memory.map_getD_range (m : Memory) : (List.range m.length).map (fun i => m.getD i false) = m :=
  List.ext_getElem (by simp) fun i _ hi => by simp [hi]

/-- The pixels read back from the stream are the bitmap, whatever frame it was encoded against (R124, R125). -/
theorem packedStream_pixels (prev : Option Memory) {bm : Memory} (hb : bm.wf) :
    (packedStream prev bm).flatMap (fun b => [(evenCode b).isBlack, (oddCode b).isBlack]) = bm := by
  have hlen : bm.length = 2 * Config.NB := hb
  simp only [packedStream, List.flatMap_map, evenCode_packedByte_isBlack, oddCode_packedByte_isBlack]
  rw [flatMap_pairs_range (fun i => bm.getD i false), ← hlen, Memory.map_getD_range]

/-! ### The statements of the family -/

/-- Settles O34: the packed byte is the two codes packed, and each nibble is one of them. -/
theorem packReadsTheStores : Obligations.PackReadsTheStores := fun _ _ hk hb hf =>
  ⟨State.pack_eq hb hf hk, packCodes_highNibble _ _, packCodes_lowNibble _ _⟩

/-- Settles O36: the stream has the colour of every pixel, and a no-refresh code has the prior pixel equal to it. -/
theorem encoderProperties : Obligations.EncoderProperties := by
  refine ⟨fun bm hb => packedStream_pixels none hb, fun s i hi hb hf hv => ?_, fun s i hi hb hv => ?_⟩
  · refine ⟨_, State.codeAt_eq hb (State.frameInv_of_wf hf) hi, ?_⟩
    have hib : i < s.bm.length := hb ▸ hi
    have hif : i < s.fs.length := hf ▸ hi
    rw [code1_isNoRefresh_iff, State.prevFrame, if_pos hv]
    simp [hib, hif]
  · have hib : i < s.bm.length := hb ▸ hi
    have hprev : s.prevFrame = none := by rw [State.prevFrame, hv]; rfl
    have hf : s.FrameInv := fun h => absurd h (Bool.eq_false_iff.mp hv)
    refine ⟨_, State.codeAt_eq hb hf hi, ?_, ?_⟩
    · rw [hprev]
      exact code1_none_isNoRefresh _
    · rw [code1_isBlack]
      simp [hib]

/-- Settles O32: the table row by row, and the two cases of CODE. -/
theorem codeTable : Obligations.CodeTable :=
  ⟨rfl, rfl, rfl, rfl, rfl, rfl, fun _ pixel index hv => State.code_of_fsValid_false hv pixel index,
    fun _ pixel _ _ hv hq => State.code_of_fsValid_true hv hq pixel⟩

/-- Settles O33: the gate form is the code of R121 for every input, and its bits are the two equations. -/
theorem gateEquations : Obligations.GateEquations := by
  intro p q
  refine ⟨codeGate_eq_code1 p q true, codeGate_eq_code1 p q false, codeGate_getLsbD_one p q true, ?_,
    codeGate_getLsbD_one p q false, ?_⟩
  · rw [codeGate_getLsbD_zero, Bool.true_and]
  · rw [codeGate_getLsbD_zero, Bool.false_and, Bool.xor_false]

end Sys2Proof.Machine
end

section
/-!
SUPPORT. The panel-side primitives (45_bus_primitives.md): the calls inside a step as one equation each, the end of a
step by where it is, S07 and S47 among them, and the statements of the family settled from these.
-/

namespace Sys2Proof.Machine

variable {s : State} {n m : Fin 48}

/-! ### The calls inside a step, as one equation -/

theorem exec_write (hp : s.pc ≠ .idle) (ho : s.sessionOpen = true) (b : Byte) :
    exec (.write b) s = .next (s.writeByte b) := by
  have h : exec (.write b) s = execWrite b s := rfl
  rw [h, execWrite, State.duringUpdate_ne_idle hp, State.withSession_open ho]

theorem exec_xfer (hp : s.pc ≠ .idle) (ho : s.sessionOpen = true) (k : Select) (b : Byte) :
    exec (.xfer k b) s = .next (s.sent k b) := by
  have h : exec (.xfer k b) s = execXfer k b s := rfl
  rw [h, execXfer, State.duringUpdate_ne_idle hp, State.withSession_open ho, State.transfer_eq]

theorem exec_log (hp : s.pc ≠ .idle) (sev : Severity) (what : LogCondition) :
    exec (.log sev what) s = .next (s.emit (.log sev what)) :=
  State.duringUpdate_ne_idle hp _

/-! ### The end of a step -/

/-- An error at a step other than S07 that has a next one: `PD` outside the power-down sequence, the next step inside
it (R157, R158). -/
theorem State.signal_eq (hp : s.pc = .step n) (hm : m.val = n.val + 1) (h7 : n ≠ 7) (e : ErrorKind) :
    s.signal e = (s.withError e).toStep (if n.val < 40 then 40 else m) := by
  by_cases h : n.val < 40
  · rw [if_pos h, State.signal_raise hp h h7]
  · rw [if_neg h, State.signal_latch hp (Nat.le_of_not_lt h) hm]

/-- After S47 comes IDLE (R15). -/
theorem State.advance_last (hp : s.pc = .step 47) : s.advance = { s with pc := .idle } := by
  rw [State.advance, hp]
  rfl

/-- At S47 an error is latched as at the steps from S40 on, and IDLE follows (R15, R158). -/
theorem State.signal_last (hp : s.pc = .step 47) (e : ErrorKind) :
    s.signal e = { s.withError e with pc := .idle } := by
  have hq : (s.withError e).pc = .step 47 := hp
  have h : s.signal e = (s.latch e).advance := by
    rw [State.signal, hp]
    rfl
  rw [h, State.latch_eq, State.advance_last hq]

/-- The call of S47, by its outcome. -/
theorem State.settle_last (hp : s.pc = .step 47) (r : TransportOutcome) :
    s.settle r = { s.callNoted r with pc := .idle } := by
  cases r with
  | ok => exact State.advance_last hp
  | fail => exact State.signal_last hp _

/-- The call of S07, by its outcome: a failure goes to `PDL` (R157, D10). -/
theorem State.settle_open (hp : s.pc = .step 7) (r : TransportOutcome) :
    s.settle r = if r = .ok then s.toStep 8 else (s.withError .transportFailure).toStep 45 := by
  cases r with
  | ok => exact State.advance_eq hp rfl
  | fail => exact State.signal_raise_open hp _

/-! ### Chip-select after a transfer -/

/-- The level of chip-select after a transfer is high only after a failed write in the slot after the high drive
(R136, D12). -/
theorem csAfter_eq (p : Params) (r : TransportOutcome) :
    csAfter p r = if p.csByteSlot = .afterHigh ∧ r = .fail then .high else .low := by
  simp only [csAfter, and_comm]

/-! ### The statements of the family -/

/-- Settles O24: the state after one transfer, its events written out for each slot and outcome. -/
theorem xferPulsesChipSelect : Obligations.XferPulsesChipSelect := by
  intro s k b hp ho v lo hi w es
  have hes : transferEvents s.params k b s.transportAnswer = es := by
    cases hslot : s.params.csByteSlot <;> cases hr : s.transportAnswer <;>
      simp [es, w, lo, hi, v, transferEvents, dcFor, drivesBefore, drivesAfter, hslot, hr]
  rw [exec_xfer hp ho, State.sent, hes, csAfter_eq]
  rfl

/-- Settles O25: CMD and DATA are forms of one transfer. -/
theorem cmdAndDataTransferOneSymbol : Obligations.CmdAndDataTransferOneSymbol := fun s b n m hp hm h8 ho =>
  ⟨symbolFormsTransferTheirSymbol (.cmd b) .command b s n m rfl hp hm h8 ho,
    symbolFormsTransferTheirSymbol (.data b) .data b s n m rfl hp hm h8 ho⟩

/-- Settles O27: the form is one transfer, and its step ends as a call of that step does. -/
theorem symbolFormsAtTheOtherSteps : Obligations.SymbolFormsAtTheOtherSteps := by
  intro i k b s hi ho
  refine ⟨fun n m hp hm h => ?_, fun hp => ?_, fun hp => ?_⟩
  · have h7 : n ≠ 7 := by rintro rfl; exact absurd h (by decide)
    rw [exec_sentSymbol hi, State.transferStep_eq hp hm h7 ho]
  · have hq : (s.sent k b).pc = .step 7 := hp
    rw [exec_sentSymbol hi, State.transferStep_open hp ho, State.settle_open hq]
  · have hq : (s.sent k b).pc = .step 47 := hp
    rw [exec_sentSymbol hi, State.transferStep_open hp ho, State.settle_last hq]
    cases s.transportAnswer <;> rfl

/-- Settles O30, by the outcome drawn and the policy. -/
theorem waitFollowsItsPolicy : Obligations.WaitFollowsItsPolicy := by
  intro s ms policy n m hp hm h7 t
  have ht : t.pc = .step n := hp
  have hexec : exec (.wait ms policy) s = .next (t.settleWait s.waitAnswer policy) := exec_wait hp ms policy
  rw [hexec]
  congr 1
  cases s.waitAnswer with
  | cleared => exact State.advance_eq ht hm
  | timedOut =>
    cases policy with
    | fatal e => exact State.signal_eq ht hm h7 e
    | warn c => cases c <;> exact State.advance_eq (s := t.emit _) ht hm

/-- Settles O19: the drive, then the next step. -/
theorem lineDrivesAndHolds : Obligations.LineDrivesAndHolds := by
  intro s l v n m hp hm
  have hq : (s.drive l v).pc = .step n := by rw [State.drive_pc, hp]
  rw [exec_line hp, State.advance_eq hq hm]
  cases l <;> rfl

/-- Settles O20: the event, then the next step. -/
theorem delayIsAnEvent : Obligations.DelayIsAnEvent := by
  intro s ms n m hp hm
  have hq : (s.emit (.delay ms)).pc = .step n := hp
  rw [exec_delay hp, State.advance_eq hq hm]
  rfl

/-- Settles O22, by the outcome drawn. -/
theorem openOpensOrRaises : Obligations.OpenOpensOrRaises := by
  intro s mode hz hp ho
  have hq (r : TransportOutcome) (open' : Bool) :
      ((s.takeTransport.emit (.openTransport mode hz r)).setSession open').pc = .step 7 := hp
  rw [exec_openTransport hp ho, State.settle_open (hq _ _)]
  cases s.transportAnswer with
  | ok => rfl
  | fail => simp [ho, State.setSession, State.toStep, State.withError, State.emit, State.takeTransport]

/-- Settles O23: one event, with the outcome drawn. -/
theorem writeHandsOverOneByte : Obligations.WriteHandsOverOneByte := fun _ b hp ho => exec_write hp ho b

/-- Settles O28: S44 is inside the power-down sequence, where a call is followed by the next step. -/
theorem closeEndsTheSession : Obligations.CloseEndsTheSession := by
  intro s hp ho
  have hq : ((s.takeTransport.emit (.closeTransport s.transportAnswer)).setSession false).pc = .step 44 := hp
  rw [exec_closeTransport hp ho, State.settle_of_powerDown (m := 45) hq rfl (by decide)]
  cases s.transportAnswer <;> rfl

/-- Settles O31: the event alone. -/
theorem logIsAnEvent : Obligations.LogIsAnEvent := fun _ sev what hp => exec_log hp sev what

end Sys2Proof.Machine
end

section
/-!
SUPPORT. Errors (60_exceptions.md): a request that fails the length check, what a step before power-down can leave, with
an error latched or without one, what a step of the power-down sequence does to `err`, and the Frame State an update
returns with.
-/

namespace Sys2Proof.Machine

variable {s t u : State} {n m : Fin 48} {e : ErrorKind}

/-! ### A request of a wrong length -/

/-- `s` after the request `bm` of a wrong length, `rest` still to come: its error logged and returned (R151, R66). -/
def State.rejected (s : State) (bm : Memory) (rest : List Memory) : State :=
  { s with
    bm := bm, requests := rest, err := some .invalidDimensions
    trace := s.trace ++ [.log .error .invalidDimensions, .ret (.err .invalidDimensions)] }

/-- UPDATE, CHECK and RET on a request of a wrong length: back in IDLE (R151). -/
theorem run_reject {bm : Memory} {rest : List Memory} (hp : s.pc = .idle) (hr : s.requests = bm :: rest)
    (hb : ¬bm.wf) : core.run 3 s = .next (s.rejected bm rest) := by
  let s0 : State := { s with bm := bm, requests := rest, pc := .step 0 }
  let s47 : State := ({ s0 with err := some .invalidDimensions }.emit (.log .error .invalidDimensions)).toStep 47
  have h0 : step s = .next s0 :=
    (step_idle_cons hp hr).trans (exec_update (s := { s with requests := rest }) hp bm)
  have h1 : step s0 = .next s47 := by
    rw [step_listing (n := 0) rfl (by decide)]
    exact (exec_check (n := 0) rfl bm.length).trans (congrArg _ (if_neg hb))
  rw [run_succ 2 h0, run_succ 1 h1, run_one (step_ret rfl)]
  simp [s0, s47, State.rejected, State.result, State.toStep, State.goto, State.emit, hp]

/-! ### What a step before power-down can leave -/

/-- An error raised with none latched, at a step other than S07: `err` and `pc` change, and nothing else (R157). -/
theorem State.signal_raise_of_none (hp : s.pc = .step n) (he : s.err = none) (h40 : n.val < 40) (h7 : n ≠ 7)
    (e : ErrorKind) : s.signal e = { s with pc := .step 40, err := some e } := by
  rw [State.signal_raise hp h40 h7, State.withError, he]
  rfl

/-- In `t`, reached by step `n`, no error is latched, and control is at the next step or still in the loop of S36
(R69). -/
structure State.GoneOn (t : State) (n : Fin 48) : Prop where
  err : t.err = none
  pc : t.pc = (Pc.step n).next ∨ n = 36 ∧ t.pc = .step 36

/-- Step `n` sends the byte `b` with the select `k`: the next byte of the stream at S36, the symbol of its entry at any
other step (R67, R102). -/
def State.Sends (s : State) (n : Fin 48) (k : Select) (b : Byte) : Prop :=
  if n = 36 then k = .data ∧ s.pack s.idx = .ok b
  else sentSymbol s.params (listing s.params s.bm.length n) = some (k, b)

/-- Step `n` of `s` takes the error `e` and leaves `t`: a failed OPEN at S07, the time-out of S19, or a failed transfer
at another step of S08 to S37 (R152, R153, R157). -/
inductive State.Raises (s : State) : Fin 48 → ErrorKind → State → Prop
  | openFailed (hr : s.transportAnswer = .fail) :
    s.Raises 7 .transportFailure
      { s.takeTransport.emit (.openTransport 0 4000000 .fail) with pc := .step 45, err := some .transportFailure }
  | initTimeout (hw : s.waitAnswer = .timedOut) :
    s.Raises 19 .initTimeout
      { s.takeWait.emit (.wait 5000 .timedOut) with pc := .step 40, err := some .initTimeout }
  | transferFailed {n : Fin 48} {k : Select} {b : Byte} (h8 : 8 ≤ n.val) (h37 : n.val ≤ 37) (h19 : n ≠ 19)
    (hr : s.transportAnswer = .fail) (hb : s.Sends n k b) :
    s.Raises n .transportFailure { s.sent k b with pc := .step 40, err := some .transportFailure }

theorem State.GoneOn.of_advance (hu : u.pc = .step n) (he : u.err = none) : u.advance.GoneOn n :=
  ⟨he, .inl (by rw [State.advance_pc, hu])⟩

theorem exec_openTransport_goneOn_or_raises (hp : s.pc = .step 7) (he : s.err = none)
    (h : exec (.openTransport 0 4000000) s = .next t) : t.GoneOn 7 ∨ ∃ e, s.Raises 7 e t := by
  have ho := (exec_openTransport_next h).1
  obtain rfl := Host.Outcome.next.inj (h.symm.trans (openOpensOrRaises s 0 4000000 hp ho))
  cases hr : s.transportAnswer with
  | ok => exact .inl ⟨he, .inl rfl⟩
  | fail =>
    rw [if_neg nofun, he]
    exact .inr ⟨_, .openFailed hr⟩

theorem exec_initWait_goneOn_or_raises (hp : s.pc = .step 19) (he : s.err = none)
    (h : exec (.wait 5000 (.fatal .initTimeout)) s = .next t) : t.GoneOn 19 ∨ ∃ e, s.Raises 19 e t := by
  rw [exec_wait_next h]
  cases hw : s.waitAnswer with
  | cleared => exact .inl (.of_advance hp he)
  | timedOut =>
    have hq : (s.takeWait.emit (.wait 5000 .timedOut)).pc = .step 19 := hp
    rw [State.settleWait, State.signal_raise_of_none hq he (by decide) (by decide)]
    exact .inr ⟨_, .initTimeout hw⟩

/-- The wait of S38 raises nothing: its time-out is a warning (R104, R139). -/
theorem exec_warnWait_goneOn {ms : Nat} {w : Warning} (hp : s.pc = .step n) (he : s.err = none)
    (h : exec (.wait ms (.warn w)) s = .next t) : t.GoneOn n := by
  rw [exec_wait_next h]
  cases s.waitAnswer with
  | cleared => exact .of_advance hp he
  | timedOut => exact .of_advance hp he

/-- A failed transfer at a step of S08 to S37 is raised (R137, R138, R157). -/
theorem State.Raises.of_signal {k : Select} {b : Byte} (hp : s.pc = .step n) (he : s.err = none) (h8 : 8 ≤ n.val)
    (h37 : n.val ≤ 37) (h19 : n ≠ 19) (hr : s.transportAnswer = .fail) (hb : s.Sends n k b) :
    s.Raises n .transportFailure ((s.sent k b).signal .transportFailure) := by
  have hq : (s.sent k b).pc = .step n := hp
  rw [State.signal_raise_of_none hq he (by omega) (by rintro rfl; contradiction)]
  exact .transferFailed h8 h37 h19 hr hb

theorem transferStep_goneOn_or_raises {k : Select} {b : Byte} (hp : s.pc = .step n) (he : s.err = none)
    (h8 : 8 ≤ n.val) (h37 : n.val ≤ 37) (h19 : n ≠ 19) (hb : s.Sends n k b)
    (h : s.transferStep k b = .next t) : t.GoneOn n ∨ ∃ e, s.Raises n e t := by
  rw [State.transferStep_next h, State.transfer_eq]
  cases hr : s.transportAnswer with
  | ok => exact .inl (.of_advance hp he)
  | fail => exact .inr ⟨_, .of_signal hp he h8 h37 h19 hr hb⟩

theorem exec_pixelByte_goneOn_or_raises {a b : PixelCode} (hp : s.pc = .step 36) (he : s.err = none)
    (hc : s.codePair s.idx = .ok (a, b)) (h : exec (.pixelByte a b) s = .next t) :
    t.GoneOn 36 ∨ ∃ e, s.Raises 36 e t := by
  have hq : (s.sent .data (packCodes a b)).pc = .step 36 := hp
  have hb : s.Sends 36 .data (packCodes a b) := ⟨rfl, by rw [State.pack, hc]⟩
  rw [exec_pixelByte_next h, State.transfer_eq]
  cases hr : s.transportAnswer with
  | ok =>
    rw [State.settlePixel_ok hq]
    refine .inl ⟨he, ?_⟩
    by_cases hi : s.idx + 1 < Config.NB
    · exact .inr ⟨rfl, if_pos hi⟩
    · exact .inl (if_neg hi)
  | fail => exact .inr ⟨_, .of_signal hp he (by decide) (by decide) (by decide) hr hb⟩

/-- An entry of the list before power-down, other than the loop, goes on without an error or raises one. -/
theorem exec_listing_goneOn_or_raises (hp : s.pc = .step n) (he : s.err = none) (h1 : 1 ≤ n.val) (h39 : n.val ≤ 39)
    (hn : n ≠ 36) (h : exec (listing s.params s.bm.length n) s = .next t) : t.GoneOn n ∨ ∃ e, s.Raises n e t := by
  rcases listing_cases s.params s.bm.length n hn with
    ⟨rfl, -⟩ | ⟨-, -, v, hl, -⟩ | ⟨-, -, -, ms, hl⟩ | ⟨rfl, hl⟩ | ⟨h8, -, h19, h38, h39', -, k, b, hl⟩ |
    ⟨rfl, hl⟩ | ⟨rfl, hl⟩ | ⟨rfl, hl⟩ | ⟨rfl, -⟩ | ⟨rfl, -⟩ | ⟨rfl, -⟩ | ⟨rfl, -⟩ | ⟨rfl, -⟩
  case inr.inr.inr.inr.inl =>
    rw [exec_sentSymbol hl] at h
    have hb : s.Sends n k b := (if_neg hn).mpr hl
    exact transferStep_goneOn_or_raises hp he h8 (by omega) (mt (congrArg Fin.val) h19) hb h
  -- S00 and the entries from S41 on are outside the range.
  any_goals contradiction
  all_goals rw [hl] at h
  · rw [exec_line_next h]
    exact .inl (.of_advance (by rw [State.drive_pc, hp]) (by rw [State.drive_err, he]))
  · rw [exec_delay_next h]
    exact .inl (.of_advance hp he)
  · exact exec_openTransport_goneOn_or_raises hp he h
  · exact exec_initWait_goneOn_or_raises hp he h
  · exact .inl (exec_warnWait_goneOn hp he h)
  · rw [(exec_commit_next h).2]
    exact .inl (.of_advance hp he)

/-- A step of S01 to S39 goes on without an error or raises one (R69, R157). -/
theorem step_goneOn_or_raises (hs : s.Inv) (hp : s.pc = .step n) (h1 : 1 ≤ n.val) (h39 : n.val ≤ 39)
    (h : step s = .next t) : t.GoneOn n ∨ ∃ e, s.Raises n e t := by
  have he := hs.err_none hp h1 h39
  by_cases hn : n = 36
  · subst hn
    obtain ⟨a, b, hc, -⟩ := State.exists_codePair_eq (hs.bm_wf hp h1 (by decide)) (State.frameInv_of_wf hs.store)
      (hs.index hp)
    exact exec_pixelByte_goneOn_or_raises hp he hc ((step_pixel hp (hs.index hp) hc).symm.trans h)
  · exact exec_listing_goneOn_or_raises hp he h1 h39 hn ((step_listing hp hn).symm.trans h)

theorem State.Raises.err (h : s.Raises n e t) : t.err = some e := by
  cases h <;> rfl

/-- An error is raised at S07 to S37 only (R157). -/
theorem State.Raises.range (h : s.Raises n e t) : 7 ≤ n.val ∧ n.val ≤ 37 := by
  cases h with
  | openFailed => decide
  | initTimeout => decide
  | transferFailed h8 h37 => exact ⟨Nat.le_of_succ_le h8, h37⟩

/-- Control goes to `PDL` from S07, to `PD` from every other step (R157, D10). -/
theorem State.Raises.pc (h : s.Raises n e t) : t.pc = .step (if n = 7 then 45 else 40) := by
  cases h with
  | openFailed => rfl
  | initTimeout => rfl
  | transferFailed h8 =>
    have h7 : n ≠ 7 := by rintro rfl; contradiction
    rw [if_neg h7]

/-- Raising an error leaves the Frame State, the session, the bitmap and the reset line alone. -/
theorem State.Raises.frame (h : s.Raises n e t) :
    t.sessionOpen = s.sessionOpen ∧ t.rst = s.rst ∧ t.fs = s.fs ∧ t.fsValid = s.fsValid ∧ t.bm = s.bm := by
  cases h <;> exact ⟨rfl, rfl, rfl, rfl, rfl⟩

/-- `InitTimeout` is raised at S19, and only there; everywhere else it is `TransportFailure` (R152, R153). -/
theorem State.Raises.kind (h : s.Raises n e t) : e = if n = 19 then .initTimeout else .transportFailure := by
  cases h with
  | openFailed => rfl
  | initTimeout => rfl
  | transferFailed _ _ h19 => rw [if_neg h19]

/-! ### The power-down sequence -/

/-- Each step of S40 to S46 is followed by the next one, and only the calls, the transfers of S40, S42 and S43 and the
close of S44, can change `err` (R158, D11, D9). -/
theorem step_powerDown (hs : s.Inv) (hp : s.pc = .step n) (h40 : 40 ≤ n.val) (hm : m.val = n.val + 1) :
    ∃ t, step s = .next t ∧ t.pc = .step m ∧
      t.err = if n.val = 40 ∨ n.val = 42 ∨ n.val = 43 ∨ n.val = 44 then errAfterCall s.err s.transportAnswer
        else s.err := by
  have ho (h44 : n.val ≤ 44) : s.sessionOpen = true := hs.sessionOpen_true hp (by omega) h44
  have hn : n = 40 ∨ n = 41 ∨ n = 42 ∨ n = 43 ∨ n = 44 ∨ n = 45 ∨ n = 46 := by omega
  rcases hn with rfl | rfl | rfl | rfl | rfl | rfl | rfl
  · exact ⟨_, step_powerDown_transfer hp hm h40 rfl (ho (by decide)) rfl, rfl, rfl⟩
  · obtain rfl : m = 42 := Fin.ext hm
    exact ⟨_, step_powerOffWait hp rfl, rfl, rfl⟩
  · exact ⟨_, step_powerDown_transfer hp hm h40 rfl (ho (by decide)) rfl, rfl, rfl⟩
  · exact ⟨_, step_powerDown_transfer hp hm h40 rfl (ho (by decide)) rfl, rfl, rfl⟩
  · obtain rfl : m = 45 := Fin.ext hm
    exact ⟨_, step_close hp (ho (by decide)) rfl, rfl, rfl⟩
  · exact ⟨_, step_line hp hm (by decide) rfl, rfl, rfl⟩
  · exact ⟨_, step_line hp hm (by decide) rfl, rfl, rfl⟩

/-- A step of S40 to S47 keeps `err`, or latches `TransportFailure` when nothing is (R158, R156 (c)). -/
theorem step_late_err (hs : s.Inv) (hp : s.pc = .step n) (h40 : 40 ≤ n.val) (h : step s = .next t) :
    t.err = s.err ∨ t.err = some (s.err.getD .transportFailure) := by
  by_cases h47 : n = 47
  · subst h47
    obtain rfl := Host.Outcome.next.inj (h.symm.trans (step_ret hp))
    exact .inl rfl
  · obtain ⟨u, hu, -, herr⟩ := step_powerDown (m := ⟨n.val + 1, by omega⟩) hs hp h40 rfl
    obtain rfl := Host.Outcome.next.inj (h.symm.trans hu)
    rw [herr]
    split
    · cases s.transportAnswer with
      | ok => exact .inl rfl
      | fail => exact .inr rfl
    · exact .inl rfl

/-! ### The Frame State an update returns with -/

theorem listing_eq_commit (p : Params) (len : Nat) (h : listing p len n = .commit) : n = 39 := by
  by_cases hn : n = 36
  · subst hn
    cases h
  · have hcases := listing_cases p len n hn
    simpa [h, sentSymbol] using hcases

/-- Every step but S39 leaves the Frame State as it was (R11, R107). -/
theorem step_fs_eq (hp : s.pc = .step n) (h39 : n ≠ 39) (h : step s = .next t) :
    t.fs = s.fs ∧ t.fsValid = s.fsValid := by
  rcases step_cases h with ⟨-, rfl⟩ | ⟨hp', -⟩ | ⟨-, a, b, -, -, h⟩ | ⟨-, -, rfl⟩ | ⟨n', hp', -, h⟩
  · exact ⟨rfl, rfl⟩
  · rw [hp] at hp'
    cases hp'
  · exact ⟨exec_fs_eq h nofun, exec_fsValid_eq h nofun⟩
  · exact ⟨rfl, rfl⟩
  · obtain rfl := Pc.step.inj (hp.symm.trans hp')
    have hc := mt (listing_eq_commit s.params s.bm.length) h39
    exact ⟨exec_fs_eq h hc, exec_fsValid_eq h hc⟩

/-- A property that every step inside an update keeps, from states that meet the invariant, holds at the return. -/
theorem exists_run_return_of_kept {P : State → Prop}
    (hP : ∀ (s t : State) (n : Fin 48), s.Inv → s.pc = .step n → step s = .next t → P s → P t) (hs : s.Inv)
    (hp : s.pc ≠ .idle) (h : P s) : ∃ k t, k ≤ s.stepsLeft ∧ core.run k s = .next t ∧ t.pc = .idle ∧ P t := by
  induction hl : s.stepsLeft using Nat.strong_induction_on generalizing s with
  | _ l ih =>
    cases hn : s.pc with
    | idle => exact absurd hn hp
    | step n =>
      obtain ⟨u, hu, hf, hbm⟩ := step_flows hs hn
      have hlt := hf.stepsLeft_lt hs hn
      have hPu := hP s u n hs hn hu h
      by_cases hup : u.pc = .idle
      · exact ⟨1, u, by omega, run_one hu, hup, hPu⟩
      · obtain ⟨k, t, hk, hrun, ht, hPt⟩ := ih _ (hl ▸ hlt) (hf.inv hs hn hbm hu) hup hPu rfl
        exact ⟨k + 1, t, by omega, (run_succ k hu).trans hrun, ht, hPt⟩

/-- In `t` the update has left S01 to S39: it is in the power-down sequence, or has returned. -/
def State.Late (t : State) : Prop := ∀ n, t.pc = .step n → 40 ≤ n.val

/-- How far the update of the bitmap of `s` has come in `t`: at S01 to S39 with the Frame State still that of `s`; or
past them, with the bitmap as the Frame State; or past them, with the Frame State still that of `s` and the error that
ended the update latched (R159, R72). -/
inductive State.Progress (s : State) (t : State) : Prop
  | running {n : Fin 48} (hp : t.pc = .step n) (h1 : 1 ≤ n.val) (h39 : n.val ≤ 39) (hbm : t.bm = s.bm)
    (hfs : t.fs = s.fs) (hv : t.fsValid = s.fsValid)
  | committed (hl : t.Late) (hfs : t.fs = s.bm) (hv : t.fsValid = true) (he : t.err ≠ some .initTimeout)
  | failed (hl : t.Late) (hfs : t.fs = s.fs) (hv : t.fsValid = s.fsValid)
    (he : t.err = some .initTimeout ∨ t.err = some .transportFailure)

theorem State.late_of_pc (hp : t.pc = .step m) (hm : 40 ≤ m.val) : t.Late := by
  intro m' hp'
  obtain rfl := Pc.step.inj (hp.symm.trans hp')
  exact hm

theorem State.Late.after_step (hs : s.Inv) (hp : s.pc = .step n) (hl : s.Late) (h : step s = .next t) : t.Late := by
  have h40 := hl n hp
  obtain ⟨u, hu, hf, -⟩ := step_flows hs hp
  obtain rfl := Host.Outcome.next.inj (h.symm.trans hu)
  rcases s.nextPc_cases n with ⟨m, hm, hn⟩ | ⟨rfl, -, -⟩ | ⟨m, -, hm, hn⟩ | ⟨-, hn⟩
  · exact State.late_of_pc (hf.pc.trans hn) (by omega)
  · contradiction
  · exact State.late_of_pc (hf.pc.trans hn) hm
  · intro m hm
    have hidle := hm.symm.trans (hf.pc.trans hn)
    cases hidle

/-- The commit is behind: the Frame State stays as it is. -/
theorem State.Late.fs_eq (hp : s.pc = .step n) (hl : s.Late) (h : step s = .next t) :
    t.fs = s.fs ∧ t.fsValid = s.fsValid := by
  have h40 := hl n hp
  exact step_fs_eq hp (by rintro rfl; contradiction) h

/-- The step of S39 commits; an earlier one goes on or raises an error (R106, R157). -/
theorem State.Progress.of_running {s₀ : State} (hs : s.Inv) (hp : s.pc = .step n) (h1 : 1 ≤ n.val)
    (h39 : n.val ≤ 39) (hbm : s.bm = s₀.bm) (hfs : s.fs = s₀.fs) (hv : s.fsValid = s₀.fsValid)
    (h : step s = .next t) : s₀.Progress t := by
  by_cases hc : n = 39
  · subst hc
    obtain rfl := Host.Outcome.next.inj (h.symm.trans (step_commit hp (hs.bm_wf hp h1 (by decide))))
    have he : ((s.storeFrame s.bm).toStep 40).err = none := hs.err_none hp h1 h39
    exact .committed (State.late_of_pc rfl (by decide)) hbm rfl (by rw [he]; nofun)
  · obtain ⟨hfs', hv'⟩ := step_fs_eq hp hc h
    rw [hfs] at hfs'
    rw [hv] at hv'
    obtain ⟨u, hu, -, hbm'⟩ := step_flows hs hp
    obtain rfl := Host.Outcome.next.inj (h.symm.trans hu)
    rcases step_goneOn_or_raises hs hp h1 h39 h with hg | ⟨e, hr⟩
    · rcases hg.pc with hpc | ⟨rfl, hpc⟩
      · have hm : (⟨n.val + 1, by omega⟩ : Fin 48).val = n.val + 1 := rfl
        exact .running (hpc.trans (Pc.next_step hm)) (by omega) (by omega) (hbm'.trans hbm) hfs' hv'
      · exact .running hpc h1 h39 (hbm'.trans hbm) hfs' hv'
    · refine .failed (State.late_of_pc hr.pc (by split <;> decide)) hfs' hv' ?_
      rw [hr.err, hr.kind]
      split <;> simp

/-- Every step of an update takes it further: from `running` to any of the three, the other two are kept. -/
theorem State.Progress.after_step {s₀ : State} (hs : s.Inv) (hp : s.pc = .step n) (h : step s = .next t)
    (hr : s₀.Progress s) : s₀.Progress t := by
  cases hr with
  | running hp' h1 h39 hbm hfs hv => exact .of_running hs hp' h1 h39 hbm hfs hv h
  | committed hl hfs hv he =>
    obtain ⟨hfs', hv'⟩ := hl.fs_eq hp h
    refine .committed (hl.after_step hs hp h) (hfs'.trans hfs) (hv'.trans hv) ?_
    rcases step_late_err hs hp (hl n hp) h with he' | he' <;> rw [he']
    · exact he
    · cases hse : s.err with
      | none => nofun
      | some e => exact hse ▸ he
  | failed hl hfs hv he =>
    obtain ⟨hfs', hv'⟩ := hl.fs_eq hp h
    refine .failed (hl.after_step hs hp h) (hfs'.trans hfs) (hv'.trans hv) ?_
    rcases step_late_err hs hp (hl n hp) h with he' | he' <;> rw [he']
    · exact he
    · rcases he with he | he <;> simp [he]

/-! ### The statements of the family -/

/-- Settles O15: the wrong request is rejected, and the next one is taken from the state that leaves. -/
theorem wrongLengthTouchesNothing : Obligations.WrongLengthTouchesNothing := by
  intro s bm rest hp hr hb
  have hreject : core.run 3 s = .next (s.rejected bm rest) := run_reject hp hr hb
  refine ⟨hreject, fun bm' rest' hr' hb' => ?_⟩
  have haccept := run_accept (s := s.rejected bm rest) hp hr' hb'
  exact (run_add 2 hreject).trans haccept

/-- Settles O45: a step that leaves an error latched has raised it, in one of three ways. -/
theorem raiseGoesToPowerDown : Obligations.RaiseGoesToPowerDown := by
  intro s t n e hs hp h1 h40 h he
  rcases step_goneOn_or_raises hs hp h1 (by omega) h with hg | ⟨e', hr⟩
  · rw [hg.err] at he
    cases he
  obtain rfl : e' = e := Option.some.inj (hr.err.symm.trans he)
  obtain ⟨h7, h37⟩ := hr.range
  obtain ⟨ho, hrst, hfs, hv, hbm⟩ := hr.frame
  have hkind := hr.kind
  refine ⟨h7, h37, hr.pc, ho, hrst, hfs, hv, hbm, ?_, ?_, ?_⟩
  · rw [hkind]
    split <;> simp
  · rw [hkind]
    split <;> simp [*]
  · cases hr with
    | openFailed hr => exact ⟨fun _ => ⟨hr, rfl⟩, fun h => absurd h (by decide), fun h => absurd rfl h⟩
    | initTimeout hw => exact ⟨fun h => absurd h (by decide), fun _ => ⟨hw, rfl⟩, fun _ h => absurd rfl h⟩
    | transferFailed h8 _ h19 hr hb =>
      exact ⟨by rintro rfl; contradiction, by rintro rfl; contradiction, fun _ _ => ⟨hr, _, _, hb, rfl⟩⟩

/-- Settles O46, by the step of the sequence and the outcome drawn. -/
theorem powerDownNeverAborts : Obligations.PowerDownNeverAborts := by
  intro s n m hs hp h40 _ hm
  obtain ⟨t, ht, hpc, herr⟩ := step_powerDown hs hp h40 hm
  refine ⟨t, ht, hpc, ?_⟩
  rw [herr]
  cases s.transportAnswer with
  | ok => simp [errAfterCall]
  | fail => simp [errAfterCall]

/-- Settles O58: how far the update has come is kept to the return, where it is one of the two outcomes. -/
theorem updateReturnsOldOrNewFrame : Obligations.UpdateReturnsOldOrNewFrame := by
  intro s n hs hp h1 h39
  obtain ⟨k, t, hk, hrun, ht, hprog⟩ := exists_run_return_of_kept (P := s.Progress)
    (fun _ _ _ hu hpu hstep => .after_step hu hpu hstep) hs (by rw [hp]; nofun) (.running hp h1 h39 rfl rfl rfl)
  refine ⟨k, t, hk.trans s.stepsLeft_le, hrun, ht, ?_⟩
  cases hprog with
  | running hpt => rw [ht] at hpt; cases hpt
  | committed _ hfs hv he => exact .inl ⟨hfs, hv, he⟩
  | failed _ hfs hv he => exact .inr ⟨hfs, hv, he⟩

end Sys2Proof.Machine
end

section
/-!
SUPPORT. Reset (70_reset_and_hazards.md): a request taken in IDLE enters the step list at S00, and the statement of the
family.
-/

namespace Sys2Proof.Machine

/-- UPDATE with the host's next request, as a step in IDLE (R15, R65). -/
theorem step_request {s : State} {bm : Memory} {rest : List Memory} (hp : s.pc = .idle)
    (hr : s.requests = bm :: rest) : step s = .next { s with bm := bm, requests := rest, pc := .step 0 } :=
  (step_idle_cons hp hr).trans (exec_update (s := { s with requests := rest }) hp bm)

/-- Settles O1: the registers by the definition of reset, the two kinds of step by the rules for a step in IDLE, where
reset leaves `pc`. -/
theorem resetLeavesTheStatedValues : Obligations.ResetLeavesTheStatedValues := by
  have hpc : State.reset.pc = .idle := rfl
  have hwaits : step State.reset = .next State.reset := step_idle_nil hpc rfl
  have henters (bm : Memory) : ∃ t, step { State.reset with requests := [bm] } = .next t ∧ t.pc = .step 0 :=
    ⟨_, step_request hpc rfl, rfl⟩
  exact ⟨rfl, rfl, hpc, rfl, rfl, rfl, rfl, hwaits, henters⟩

end Sys2Proof.Machine
end

section
/-!
SUPPORT. The invariant of the block (10_state.md section 6): what it asks for outside a running step list, its
preservation by a step in IDLE and inside an update, and the statements of the family.
-/

namespace Sys2Proof.Machine

variable {s t : State}

/-! ### The invariant in IDLE and at S00 -/

/-- In IDLE and at S00 the invariant asks only for a closed session and the `N` cells of the store. -/
theorem State.inv_of_idle_or_start (hp : t.pc = .idle ∨ t.pc = .step 0) (hs : t.SessionInv) (hf : t.fs.wf) :
    t.Inv where
  session := hs
  error := by rcases hp with hp | hp <;> simp [State.ErrorInv, hp]
  bitmap := by rcases hp with hp | hp <;> simp [State.BitmapInv, hp]
  index := by rcases hp with hp | hp <;> simp [State.IndexInv, hp]
  store := hf

theorem reset_inv : State.reset.Inv := State.inv_of_idle_or_start (.inl rfl) rfl reset_fs_wf

/-! ### The invariant across a step -/

/-- In IDLE the block waits (R71), or takes the next request to S00 (R15, R65). -/
theorem exists_step_inv_of_idle (hs : s.Inv) (hp : s.pc = .idle) : ∃ t, step s = .next t ∧ t.Inv := by
  cases hr : s.requests with
  | nil => exact ⟨s, step_idle_nil hp hr, hs⟩
  | cons bm rest =>
    have h := step_request hp hr
    exact ⟨_, h, State.inv_of_idle_or_start (.inr rfl) (step_keeps_sessionInv h hs.session)
      (step_keeps_fs_wf h hs.store)⟩

/-- Inside an update every step answers, by where control goes from it (R69). -/
theorem exists_step_inv_of_running {n : Fin 48} (hs : s.Inv) (hp : s.pc = .step n) :
    ∃ t, step s = .next t ∧ t.Inv := by
  obtain ⟨t, h, hflows, hbm⟩ := step_flows hs hp
  exact ⟨t, h, hflows.inv hs hp hbm h⟩

/-! ### The statements of the family -/

/-- Settles O3, by the two kinds of step: in IDLE, and inside an update. -/
theorem stepKeepsTheInvariantAndNeverStops : Obligations.StepKeepsTheInvariantAndNeverStops := by
  intro s hs
  cases hp : s.pc with
  | idle => exact exists_step_inv_of_idle hs hp
  | step n => exact exists_step_inv_of_running hs hp

/-- Settles O2: reset waits in IDLE, where both invariants ask for little; the default command bytes are compared. -/
theorem resetMeetsTheInvariants : Obligations.ResetMeetsTheInvariants := by
  have hdistinct : defaultParams.distinct := by decide
  exact ⟨reset_inv, State.lineInv_of_idle rfl, hdistinct⟩

end Sys2Proof.Machine
end
